-- ==== Sys2Proof/Word.lean ====
section
/-! DEFINITION. The words of the LD-4: the byte of its ports and lines, the 16-bit registers of the upload link and the
packed-decimal code (00_scope.md, "Bytes on the ports and the line"). -/

namespace Sys2Proof

/-- One byte on a terminal port, the printer line or the upload line. -/
abbrev Byte := BitVec 8

/-- The CRC register, the random generator, the check word, and a system number as two packed-decimal bytes. -/
abbrev Word16 := BitVec 16

/-- A code as its seven packed-decimal bytes: d1 is the highest nibble, d14 the lowest. Codes whose nibbles are all digits
compare as 14-digit numbers exactly as these words compare. -/
abbrev Code := BitVec 56

end Sys2Proof
end

