-- ==== Sys2Proof/Syntax.lean ====
section
/-! DEFINITION. The commands of the LD-4: one constructor of `Instr` per row of spec/opcode_table.json, in the table's order.
A row of the port command table (TABLE 11-2) is the one event of its EXECUTING phase (R174): its parameters stand in the
port's command buffer, so its only operand is the port. The other rows are accesses of a port, edges and samples at the
stations, steps of the transaction slots, and events of the printer, the clock, the upload link and the supply. -/

namespace Sys2Proof

/-- The two terminal ports. -/
inductive Port where
  | A
  | B
  deriving DecidableEq, Repr

/-- The four wand stations, each with one transaction slot. -/
inductive Station where
  | s0
  | s1
  | s2
  | s3
  deriving DecidableEq, Repr

/-- One value for each station. -/
structure PerStation (α : Type) where
  s0 : α
  s1 : α
  s2 : α
  s3 : α
  deriving DecidableEq, Repr

/-- One value for each port. -/
structure PerPort (α : Type) where
  a : α
  b : α
  deriving DecidableEq, Repr

/-- The role a port takes from its ROLE strap at a start (R179). -/
inductive Role where
  | staff
  | kiosk
  deriving DecidableEq, Repr

/-- The lines of a port in one bus cycle, as the LD-4 samples them (R170): whether the chip select and the two strobes are active,
whether the address line is high, and the byte that the terminal drives. -/
structure BusCycle where
  chipSelect : Bool
  readStrobe : Bool
  writeStrobe : Bool
  addressHigh : Bool
  data : Byte
  deriving DecidableEq, Repr

/-- Why the receiver abandons a frame (R147). -/
inductive AbandonCause where
  | lengthAbove240
  | pauseOver4
  | badCrc
  | overlap
  deriving DecidableEq, Repr

/-- A record-memory step (R35) or a settings write (R194) that a reset or a loss of power can cut off. -/
inductive UnderWay where
  | checkoutStep (st : Station)
  | returnStep (st : Station)
  | renewStep (st : Station)
  | command (p : Port)
  | ackFrame (frame : List Byte)
  | updateFrame (frame : List Byte)
  | broadcastUpdate (frame : List Byte)
  | endFrame (frame : List Byte)
  | newMinute
  | pfailFall
  deriving DecidableEq, Repr

/-- Where a reset or a loss of power finds the part (R36, R191, R194). -/
inductive Cut where
  /-- No record-memory step and no settings write is under way. -/
  | between
  /-- The step is still being written into the commit area, which is not yet marked complete. -/
  | filling (u : UnderWay)
  /-- The commit area is marked complete and the step is being applied. -/
  | complete (u : UnderWay)
  /-- The command at the port has written its setting but not the check word. -/
  | settingTorn (p : Port)
  deriving DecidableEq, Repr

/-- The commands of the LD-4, one per row of spec/opcode_table.json. -/
inductive Instr where
  | identify (p : Port)
  | setAttention (p : Port)
  | takeEvent (p : Port)
  | portStatus (p : Port)
  | assignStation (p : Port)
  | stationStatus (p : Port)
  | readScan (p : Port)
  | keyEntry (p : Port)
  | setStation (p : Port)
  | openTransaction (p : Port)
  | closeTransaction (p : Port)
  | cancelTransaction (p : Port)
  | overrideBlock (p : Port)
  | transactionStatus (p : Port)
  | find (p : Port)
  | abortFind (p : Port)
  | readEntry (p : Port)
  | recordPayment (p : Port)
  | addBlock (p : Port)
  | removeBlock (p : Port)
  | setItemFlag (p : Port)
  | clearItemFlag (p : Port)
  | tableCounts (p : Port)
  | setClock (p : Port)
  | readClock (p : Port)
  | setHours (p : Port)
  | addClosure (p : Port)
  | removeClosure (p : Port)
  | setPeriod (p : Port)
  | setItemClass (p : Port)
  | setBorrowerClass (p : Port)
  | computeDue (p : Port)
  | setThreshold (p : Port)
  | printNote (p : Port)
  | reprintLast (p : Port)
  | printerStatus (p : Port)
  | setHeader (p : Port)
  | setPrinter (p : Port)
  | startUpload (p : Port)
  | stopUpload (p : Port)
  | linkStatus (p : Port)
  | setLink (p : Port)
  | setMode (p : Port)
  /-- A write of the data byte, here of a code the command table does not hold. -/
  | unknownCommand (p : Port) (b : Byte)
  /-- A write of the data byte, here of the next parameter. -/
  | parameterByteWrite (p : Port) (b : Byte)
  /-- A read of the data byte, here of the next result byte. -/
  | resultByteRead (p : Port)
  /-- A bus cycle at the port, here one that is no access, or an access that is disregarded. -/
  | disregardedAccess (p : Port) (cycle : BusCycle)
  /-- A write of 5AH to the status byte. -/
  | portReset (p : Port)
  | acquisitionStart (st : Station)
  | acquisitionAbandon (st : Station)
  | quietReached (st : Station)
  /-- The quiet that ends a symbol; `ms` is the reading of the station's own millisecond timer at that moment (R10). -/
  | decodeSymbol (st : Station) (ms : Nat)
  /-- The levels of the four presence inputs at a sample, true for present. -/
  | presenceSample (levels : PerStation Bool)
  | patternEnd (st : Station)
  | patronStep (st : Station)
  | checkoutStep (st : Station)
  | returnStep (st : Station)
  | renewStep (st : Station)
  | secondCard (st : Station)
  | ignoredCode (st : Station)
  | wrongCodeRefusal (st : Station)
  | inactivityTimeout (st : Station)
  | findDone (p : Port)
  | wakeComplete
  | linePrinted
  | paperOut
  | paperRestored
  | idleTimerExpiry
  | settleComplete
  | newMinute
  | retryExpiry
  | gapWon
  | noLine
  | collision
  | backoffEnd
  | dataFrameSent
  | pollSent
  /-- A frame received whole; `frame` is its characters from C3H to the last CRC byte, and so for the rows below. -/
  | ackFrame (frame : List Byte)
  | busyFrame (frame : List Byte)
  | replyTimeout
  | updateFrame (frame : List Byte)
  | broadcastUpdate (frame : List Byte)
  | replyDelayEnd
  | replySent
  | replyCollision
  | endFrame (frame : List Byte)
  | pfailRise
  | pfailFall
  | resetAssert (cut : Cut)
  /-- `backupKept` is false when the backup supply fails as well, so that record memory loses its contents (R191). -/
  | powerLoss (cut : Cut) (backupKept : Bool)
  /-- A start that reads the two ROLE straps. -/
  | start (roleA roleB : Role)
  /-- A write of the data byte, here of a code of the command table. -/
  | commandCodeTaken (p : Port) (b : Byte)
  | elementMeasured (st : Station) (ticks : Nat)
  | frameAbandoned (cause : AbandonCause)
  | lineActivity
  | gapCommitted
  | jamEnd
  | randomGeneratorStep
  deriving DecidableEq, Repr

end Sys2Proof
end

