-- ==== Sys2Proof/Decode.lean ====
section
/-! DEFINITION. Reading a command from a word of the opcode table. The table of this block gives no row any bits: its commands
are events and accesses at the lines of the part, and the codes of TABLE 11-2 reach it byte by byte through a port's command
buffer (Machine/Protocol.lean). So no word spells a command. -/

namespace Sys2Proof

/-- The command that a word of the table spells: none, since no row of spec/opcode_table.json has bits. -/
def decodeTableWord (_nbits _w : Nat) : Option Instr := none

end Sys2Proof
end

