-- ==== Sys2Proof/Config.lean ====
section
/-! DEFINITION. What one LD-4 fixes: the capacities of its collections, the settings of TABLE 10-3 as one record with their
defaults, and the free values: the order of the settings under the check word (R194) and a fact that R77 and R81 leave open. -/

namespace Sys2Proof

/-- A station's configuration (TABLE 1-9): its owner, the repeat window in ms and the inactivity timeout in s. -/
structure StationConfig where
  owner : Option Port
  repeatWindow : Nat
  timeout : Nat
  deriving DecidableEq, Repr

/-- A weekday's hours (R68). -/
structure DayHours where
  openAt : Nat
  closeAt : Nat
  deriving DecidableEq, Repr

/-- The kind of an item class (TABLE 4-4). -/
inductive ClassKind where
  | day
  | hour
  deriving DecidableEq, Repr

/-- A row of the item class table (TABLE 4-4). -/
structure ItemClass where
  kind : ClassKind
  grace : Nat
  rate : Nat
  cap : Nat
  maxRenewals : Nat
  deriving DecidableEq, Repr

/-- A row of the borrower class table (TABLE 4-4). -/
structure BorrowerClass where
  loanLimit : Nat
  termLimit : Option Nat
  deriving DecidableEq, Repr

/-- Every setting of TABLE 10-3. -/
structure Configuration where
  stations : PerStation StationConfig
  hours : Vector DayHours 7
  itemClasses : Vector ItemClass 16
  periods : Vector (Vector Nat 8) 16
  borrowerClasses : Vector BorrowerClass 8
  threshold : Nat
  header : List Byte
  idleTime : Nat
  address : Nat
  /-- The system number, four packed-decimal digits. -/
  system : Word16
  windowStart : Nat
  windowEnd : Nat
  retryInterval : Nat
  deriving DecidableEq, Repr

/-- The defaults of TABLE 10-3 (TABLE 1-9, TABLE 4-3, TABLE 4-5 and the rows of TABLE 10-3 itself). -/
def Configuration.factory : Configuration where
  stations :=
    { s0 := ⟨some .A, 1500, 90⟩, s1 := ⟨some .A, 1500, 90⟩, s2 := ⟨some .B, 1500, 90⟩, s3 := ⟨some .B, 1500, 90⟩ }
  hours := #v[⟨540, 1200⟩, ⟨540, 1200⟩, ⟨540, 1200⟩, ⟨540, 1200⟩, ⟨540, 1200⟩, ⟨540, 1200⟩, ⟨0, 0⟩]
  itemClasses := Vector.replicate 16 ⟨.day, 0, 10, 1000, 2⟩
  periods := Vector.replicate 16 (Vector.replicate 8 14)
  borrowerClasses := Vector.replicate 8 ⟨20, none⟩
  threshold := 1000
  header := List.replicate 32 0x20#8
  idleTime := 60
  address := 1
  system := 0
  windowStart := 1380
  windowEnd := 330
  retryInterval := 15

namespace Config

/-- The settings of TABLE 10-3: 3 of each station, 2 of each weekday, 5 of each item class, a period for each pair of classes, 2 of
each borrower class, the threshold, the header, the idle time and the five of SET LINK. -/
def settingCount : Nat := 258

/-- FREE VALUE (log entry 1). The "internal order fixed in the part" in which the check word covers the settings (R194): which
setting of TABLE 10-3 stands at each place. -/
opaque settingsOrder : Equiv.Perm (Fin settingCount)

/-- FREE VALUE (log entry 32). Whether COMPUTE DUE reports ELAPSED beside the CALENDAR-END that ends the elapsed-time fallback: R81
notes ELAPSED before it gives CALENDAR-END, and R77 ties the facts to a due instant. -/
opaque elapsedAtCalendarEnd : Bool

/-- Capacities of the collections (R24, R31, R45, R70, R89). -/
def journalMax : Nat := 4096
def loansMax : Nat := 8192
def blocksMax : Nat := 1024
def flagsMax : Nat := 512
def balancesMax : Nat := 256
def closuresMax : Nat := 64

/-- The high-water marks of the journal (R38). -/
def highWaterMark : Nat := 3584
def rearmMark : Nat := 3072

/-- Capacities of the working memory (R130, R182, 1.5, R113). -/
def slipQueueMax : Nat := 8
def eventQueueMax : Nat := 8
def scanSlotsMax : Nat := 2
def linesMax : Nat := 32

/-- The last day the calendar counts. -/
def lastDay : Nat := 65535

/-- The greatest amount a balance, payment or threshold holds. -/
def amountMax : Nat := 999999

end Config

end Sys2Proof
end

