-- ==== Sys2Proof/Machine/Bytes.lean ====
section
/-! DEFINITION. Byte order of the ports and the line (00_scope.md, "Bytes on the ports and the line"; Section 11): numbers
high byte first, codes as seven packed-decimal bytes, absent values all FFH; and the CRC of R146. -/

namespace Sys2Proof.Machine

/-- A one-byte number. -/
def byte (n : Nat) : Byte := BitVec.ofNat 8 n

/-- A two-byte number, high byte first. -/
def be16 (n : Nat) : List Byte := [byte (n / 256), byte n]

/-- A three-byte amount, high byte first. -/
def be24 (n : Nat) : List Byte := [byte (n / 65536), byte (n / 256), byte n]

/-- The absent value of `n` bytes (Section 11). -/
def absent (n : Nat) : List Byte := List.replicate n 0xFF#8

/-- A code as seven packed-decimal bytes, d1 the high nibble of the first. -/
def codeBytes (c : Code) : List Byte :=
  be24 (c.toNat / 4294967296) ++ be16 (c.toNat / 65536) ++ be16 c.toNat

/-- An optional code. -/
def codeOrAbsent : Option Code → List Byte
  | some c => codeBytes c
  | none => absent 7

/-- An optional two-byte number. -/
def be16OrAbsent : Option Nat → List Byte
  | some n => be16 n
  | none => absent 2

/-- An optional three-byte amount. -/
def be24OrAbsent : Option Nat → List Byte
  | some n => be24 n
  | none => absent 3

/-- The number whose bytes stand high byte first. -/
def number (bs : List Byte) : Nat := bs.foldl (fun n b => n * 256 + b.toNat) 0

/-- `n` bytes from position `i` on. -/
def slice (bs : List Byte) (i n : Nat) : List Byte := (bs.drop i).take n

/-- The byte at position `i`. -/
def byteAt (bs : List Byte) (i : Nat) : Byte := bs.getD i 0#8

/-- The two-byte number at position `i`. -/
def numAt (bs : List Byte) (i : Nat) : Nat := number (slice bs i 2)

/-- The seven-byte code at position `i`. -/
def codeAt (bs : List Byte) (i : Nat) : Code := BitVec.ofNat 56 (number (slice bs i 7))

/-- A flag sent as 0 or 1. -/
def bit (b : Bool) : Byte := if b then 1#8 else 0#8

/-- One of the eight shifts of a byte into the CRC register (R146). -/
def crcShift (r : Word16) : Word16 := if r.getLsbD 15 then (r <<< 1) ^^^ 0x1021#16 else r <<< 1

/-- `n` shifts of the CRC register. -/
def crcShifts : Nat → Word16 → Word16
  | 0, r => r
  | n + 1, r => crcShifts n (crcShift r)

/-- A byte taken into the CRC register: combined into its high eight bits, then eight shifts (R146). -/
def crcByte (r : Word16) (b : Byte) : Word16 := crcShifts 8 (r ^^^ ((b.setWidth 16) <<< 8))

/-- The CRC of a run of bytes (R146). -/
def crc16 (bs : List Byte) : Word16 := bs.foldl crcByte 0xFFFF#16

end Sys2Proof.Machine
end

