-- ==== Sys2Proof/Machine/Settings.lean ====
section
/-! DEFINITION. The settings of TABLE 10-3 as bytes, and the configuration check word over them (R194). Each setting stands in the bytes
in which its own command sends it (TABLE 11-2, TABLE 11-5); the order of the settings is the part's own, and free (log
entry 1). -/

namespace Sys2Proof.Machine

/-- The number of a port (TABLE 11-5). -/
def portNumber : Port → Nat
  | .A => 0
  | .B => 1

def portCode (p : Port) : Byte := byte (portNumber p)

/-- An owner as a selector (TABLE 11-5). -/
def ownerCode : Option Port → Byte
  | some p => portCode p
  | none => 0xFF#8

def kindCode : ClassKind → Byte
  | .day => 0x00#8
  | .hour => 0x01#8

/-- The settings of a station (TABLE 1-9). -/
def stationFields (x : StationConfig) : List (List Byte) := [[ownerCode x.owner], be16 x.repeatWindow, be16 x.timeout]

/-- The hours of a weekday (R68). -/
def hoursFields (x : DayHours) : List (List Byte) := [be16 x.openAt, be16 x.closeAt]

/-- A row of the item class table (TABLE 4-4). -/
def itemClassFields (x : ItemClass) : List (List Byte) :=
  [[kindCode x.kind], [byte x.grace], be16 x.rate, be16 x.cap, [byte x.maxRenewals]]

/-- A row of the borrower class table (TABLE 4-4). -/
def borrowerClassFields (x : BorrowerClass) : List (List Byte) := [[byte x.loanLimit], be16OrAbsent x.termLimit]

/-- The bytes of every setting of TABLE 10-3, in the order in which that table lists them. -/
def settingFields (c : Configuration) : List (List Byte) :=
  [c.stations.s0, c.stations.s1, c.stations.s2, c.stations.s3].flatMap stationFields
    ++ c.hours.toList.flatMap hoursFields ++ c.itemClasses.toList.flatMap itemClassFields
    ++ c.periods.toList.flatMap (fun row => row.toList.map (fun n => [byte n]))
    ++ c.borrowerClasses.toList.flatMap borrowerClassFields ++ [be24 c.threshold, c.header, be16 c.idleTime]
    ++ [[byte c.address], [c.system.extractLsb' 8 8, c.system.extractLsb' 0 8], be16 c.windowStart, be16 c.windowEnd,
        [byte c.retryInterval]]

/-- The bytes of the settings, each setting once, in the part's internal order (R194). -/
def settingBytes (c : Configuration) : List Byte :=
  (List.finRange Config.settingCount).flatMap (fun i => (settingFields c).getD (Config.settingsOrder i) [])

/-- The configuration check word: the computation of R146 over every setting, in the part's internal order (R194). -/
def checkWordOf (c : Configuration) : Word16 := crc16 (settingBytes c)

end Sys2Proof.Machine
end

