-- ==== Sys2Proof/Machine/State.lean ====
section
/-! DEFINITION. The state of the LD-4, block by block (TABLE 0-1), as plain data; what stops a step; and the state right after
a cold start (R192). INVENTORY.md, "State", lists every field with the rule that names it and its value at reset. -/

namespace Sys2Proof

namespace PerStation

/-- The value at a station. -/
def get {α : Type} (v : PerStation α) : Station → α
  | .s0 => v.s0
  | .s1 => v.s1
  | .s2 => v.s2
  | .s3 => v.s3

/-- The same values but for one station. -/
def set {α : Type} (v : PerStation α) (st : Station) (x : α) : PerStation α :=
  match st with
  | .s0 => { v with s0 := x }
  | .s1 => { v with s1 := x }
  | .s2 => { v with s2 := x }
  | .s3 => { v with s3 := x }

/-- One value at all four stations. -/
def const {α : Type} (x : α) : PerStation α := ⟨x, x, x, x⟩

end PerStation

namespace PerPort

/-- The value at a port. -/
def get {α : Type} (v : PerPort α) : Port → α
  | .A => v.a
  | .B => v.b

/-- The same values but for one port. -/
def set {α : Type} (v : PerPort α) (p : Port) (x : α) : PerPort α :=
  match p with
  | .A => { v with a := x }
  | .B => { v with b := x }

end PerPort

namespace Machine

/-! ### The record-memory collections (Sections 2 to 5) -/

/-- Record kinds (TABLE 2-3). -/
inductive RecordKind where
  | checkout
  | returned
  | renewed
  | fine
  | payment
  | override
  | blockSet
  | blockClear
  | flagSet
  | flagClear
  deriving DecidableEq, Repr

/-- Record flags (TABLE 2-4), each set or clear. -/
structure RecordFlags where
  notTabled : Bool := false
  overridden : Bool := false
  hour : Bool := false
  implicit : Bool := false
  unknown : Bool := false
  foreign : Bool := false
  untracked : Bool := false
  localLogic : Bool := false
  deriving DecidableEq, Repr

/-- A JOURNAL record (TABLE 2-2); `sent` is its upload state. -/
structure Record where
  seq : Nat
  kind : RecordKind
  day : Nat
  minute : Nat
  station : Option Station
  port : Port
  flags : RecordFlags
  borrower : Option Code
  item : Option Code
  dueDay : Option Nat
  dueMinute : Option Nat
  amount : Option Nat
  sent : Bool
  deriving DecidableEq, Repr

/-- A LOAN TABLE entry (TABLE 2-1). -/
structure Loan where
  item : Code
  borrower : Code
  itemClass : Fin 16
  borrowerClass : Fin 8
  outDay : Nat
  outMinute : Nat
  dueDay : Nat
  dueMinute : Option Nat
  renewals : Nat
  seq : Nat
  deriving DecidableEq, Repr

/-- Block reasons (TABLE 3-2). -/
inductive BlockReason where
  | centralFines
  | lostCard
  | expired
  | staff
  | localFines
  | other
  deriving DecidableEq, Repr

/-- Who made a block as it now stands (TABLE 3-1). -/
inductive Origin where
  | central
  | staff
  | localLogic
  deriving DecidableEq, Repr

/-- A BLOCK LIST entry (TABLE 3-1). -/
structure Block where
  borrower : Code
  reason : BlockReason
  origin : Origin
  dayAdded : Nat
  deriving DecidableEq, Repr

/-- Item flags (TABLE 3-5). -/
inductive ItemFlag where
  | reserved
  | withdrawn
  | missing
  | reference
  deriving DecidableEq, Repr

/-- An ITEM FLAG TABLE entry (TABLE 3-6). -/
structure FlagEntry where
  item : Code
  flag : ItemFlag
  reserver : Option Code
  daySet : Nat
  deriving DecidableEq, Repr

/-- A BALANCE TABLE entry (TABLE 5-3). -/
structure Balance where
  borrower : Code
  amount : Nat
  deriving DecidableEq, Repr

/-- The record-memory collections (R35), with the numbers that a record-memory step writes along with them: the next
sequence (R32), the last run update with its applied count (R158) and the last broadcast update (R149). -/
structure Collections where
  journal : List Record
  loans : List Loan
  blocks : List Block
  flags : List FlagEntry
  balances : List Balance
  closures : List Nat
  nextSeq : Nat
  lastRun : Option (Nat × Nat)
  lastBroadcast : Option Nat
  deriving DecidableEq, Repr

/-- The commit area (R36): empty, holding a step not yet whole, or holding a whole step, kept as the collections that the
step leaves (log entry 8). -/
inductive CommitArea where
  | empty
  | incomplete
  | complete (image : Collections)
  deriving DecidableEq, Repr

/-- The calendar clock (R61, R63). -/
structure Clock where
  day : Nat
  minute : Nat
  second : Nat
  unset : Bool
  deriving DecidableEq, Repr

/-! ### Wand stations (Section 1) -/

/-- Decoder states (TABLE 1-3); ACQUIRING holds the first 91 elements in ticks and the count of all (R3). -/
inductive Decoder where
  | disabled
  | waitQuiet
  | quiet
  | acquiring (kept : List Nat) (count : Nat)
  deriving DecidableEq, Repr

/-- Indicator patterns (TABLE 1-8). -/
inductive Pattern where
  | accept
  | refuse
  | attention
  | fault
  deriving DecidableEq, Repr

/-- The working state of a wand station (TABLE 1-10). -/
structure WandStation where
  /-- Recorded presence (R15). -/
  present : Bool
  /-- The level seen at the previous sample, if one is held (R15). -/
  prevSample : Option Bool
  decoder : Decoder
  /-- The repeat filter's last accepted code and the time of that acceptance (R10). -/
  lastAccepted : Option (Code × Nat)
  /-- The two SCAN SLOTS, oldest code first (R11). -/
  scans : List Code
  overflow : Bool
  /-- The pattern sounding at the indicator, if any (R17). -/
  indicator : Option Pattern
  deriving DecidableEq, Repr

/-! ### Transaction slots (Section 6) -/

/-- Transaction states (TABLE 6-2). -/
inductive SlotState where
  | idle
  | awaitPatron
  | patronBlocked
  | serving
  | returning
  | closing
  deriving DecidableEq, Repr

/-- Transaction modes (TABLE 6-1). -/
inductive TxMode where
  | checkout
  | returning
  | renewing
  deriving DecidableEq, Repr

/-- What an item line reports (R122). -/
inductive LineOutcome where
  | out
  | returned
  | renewed
  deriving DecidableEq, Repr

/-- An item line of a draft or a slip (R122): `due` is the due day and due minute, `heldFor` the reserving borrower. -/
structure ItemLine where
  item : Code
  outcome : LineOutcome
  due : Option (Nat × Option Nat)
  fine : Nat
  heldFor : Option Code
  deriving DecidableEq, Repr

/-- A TRANSACTION SLOT (TABLE 6-1). Its lines are the length of `draft`, its fines total the sum of the draft's fines. The
timer is stopped, or running with the number of seconds after its last restart at which it expires (R106). -/
structure Slot where
  state : SlotState
  mode : Option TxMode
  slipWanted : Bool
  patron : Option Code
  patronClass : Option (Fin 8)
  overridden : Bool
  draft : List ItemLine
  timer : Option Nat
  reopen : Option Code
  deriving DecidableEq, Repr

/-! ### The SLIP UNIT (Section 7) -/

/-- Slip kinds (TABLE 7-2). -/
inductive SlipKind where
  | loan
  | returned
  | renewal
  | note
  | copy
  deriving DecidableEq, Repr

/-- A slip (TABLE 7-2). -/
structure Slip where
  number : Option Nat
  kind : SlipKind
  copyOf : Option (SlipKind × Nat)
  copyMark : Bool
  station : Option Station
  port : Port
  header : List Byte
  day : Nat
  minute : Nat
  borrower : Option Code
  items : List ItemLine
  text : List (List Byte)
  finesTotal : Nat
  balance : Option Nat
  deriving DecidableEq, Repr

/-- Printer states (TABLE 7-5). -/
inductive PrinterState where
  | asleep
  | waking
  | ready
  | printing
  | noPaper
  | settling
  deriving DecidableEq, Repr

/-- The SLIP UNIT (TABLE 7-1) with its lines to the printer. -/
structure SlipUnit where
  /-- The SLIP QUEUE, head first. -/
  queue : List Slip
  /-- The closing-wait list: slots in CLOSING with their composed slips, longest wait first. -/
  waiting : List (Station × Slip)
  lastSlip : PerStation (Option Slip)
  printer : PrinterState
  feedOwed : Bool
  idleTimer : Option Nat
  /-- Blank lines of the feed still to be printed in this PRINTING; 0 while the slip's own lines are sent (R139). -/
  feedLeft : Nat
  /-- The slip's own lines printed so far in this PRINTING. -/
  linesDone : Nat
  /-- The line under way has been sent with its line end, and PRINTER-BUSY's fall is awaited (R139, R140; log entry 15). -/
  lineSent : Bool
  /-- The level of the PAPER-OUT input, true for high. -/
  paperOut : Bool
  /-- The bytes most recently sent on the printer line (log entry 16). -/
  output : List Byte
  deriving DecidableEq, Repr

/-! ### The UPLOAD LINK (Section 8) -/

/-- Run states (TABLE 8-5). -/
inductive RunState where
  | idle
  | armed
  | contend
  | sendData
  | awaitAck
  | sendPoll
  | awaitUpdate
  | sendReply
  deriving DecidableEq, Repr

/-- The frame in flight (TABLE 8-1). A DATA frame has its sequence and record count from the moment it is formed (R154). -/
inductive FrameInFlight where
  | none
  | poll
  | data (formed : Option (Nat × Nat))
  deriving DecidableEq, Repr

/-- What the link waits for in CONTEND: a gap, with the gap count in character times, or a backoff of some slots (R150, R151). -/
inductive Seek where
  | off
  | backoff (slots : Nat)
  | gap (count : Nat)
  deriving DecidableEq, Repr

/-- Jam characters in transmission, by what follows them (R151, R159). -/
inductive Jam where
  | backoff
  | reply
  | runOver
  deriving DecidableEq, Repr

/-- Reasons of a failed run (TABLE 8-6). -/
inductive FailReason where
  | collisions
  | noLine
  | noReply
  | centralBusy
  | stopped
  deriving DecidableEq, Repr

/-- The last outcome (TABLE 8-1). -/
inductive LastOutcome where
  | none
  | done
  | failed (reason : FailReason)
  deriving DecidableEq, Repr

/-- The ACK prepared in SEND-REPLY (R158, R159): the UPDATE's frame number, the reply count, and whether its characters are
being sent, the two character times of delay having passed. -/
structure Reply where
  seq : Nat
  count : Nat
  sending : Bool
  deriving DecidableEq, Repr

/-- The UPLOAD LINK's working memory (TABLE 8-1). -/
structure Link where
  run : RunState
  windowOpen : Bool
  frame : FrameInFlight
  attempts : Nat
  timeouts : Nat
  confirmed : Nat
  applied : Nat
  /-- The reply timer, running or stopped. -/
  replyTimer : Bool
  /-- The retry timer: stopped, or the minutes remaining. -/
  retry : Option Nat
  random : Word16
  outcome : LastOutcome
  seek : Seek
  jam : Option Jam
  reply : Option Reply
  /-- The characters the link is transmitting: a frame, or the two jam characters (log entry 16). -/
  sending : List Byte
  deriving DecidableEq, Repr

/-! ### Terminal ports (Section 9) -/

/-- Phases of a port (TABLE 9-3). -/
inductive Phase where
  | commandIdle
  | commandParams
  | executing
  | result
  deriving DecidableEq, Repr

/-- Item refusal reasons (TABLE 9-7). -/
inductive Refuse where
  | foreign
  | classBarred
  | blocked
  | notLoanable
  | itemHeld
  | alreadyYours
  | limit
  | transactionFull
  | calendarEnd
  | journalFull
  | notOnLoan
  | notYours
  | renewalLimit
  | needPatron
  | wrongType
  deriving DecidableEq, Repr

/-- Ends of a search (R41, R42). -/
inductive SearchEnd where
  | hit
  | miss
  | aborted
  deriving DecidableEq, Repr

/-- The operating mode (R188). -/
inductive Mode where
  | day
  | night
  deriving DecidableEq, Repr

/-- What STARTED carries (R193). -/
inductive StartKind where
  | cold
  | warm
  | warmConfigLost
  deriving DecidableEq, Repr

/-- Event kinds (TABLE 9-5). -/
inductive EventKind where
  | patronOk
  | patronBlocked
  | itemOut
  | itemIn
  | itemRenewed
  | itemRefused
  | itemFound
  | holdShelf
  | transactionClosed
  | timedOut
  | scanReady
  | scanLost
  | stationChange
  | findDone
  | slipPrinted
  | printerFault
  | printerReady
  | journalHigh
  | blockListFull
  | uploadDone
  | uploadFailed
  | updateRefused
  | modeChange
  | started
  deriving DecidableEq, Repr

/-- The value of an event, in its four forms (Section 11). -/
inductive EventValue where
  | due (day : Nat) (minute : Option Nat)
  | amount (cents : Nat)
  | number (n : Nat)
  | counts (confirmed applied : Nat)
  deriving DecidableEq, Repr

/-- The reason of an event, by family (TABLE 9-7 and the text after it). -/
inductive EventReason where
  | refuse (r : Refuse)
  | block (r : BlockReason)
  | search (r : SearchEnd)
  | fail (r : FailReason)
  | presence (present : Bool)
  | mode (m : Mode)
  | start (k : StartKind)
  deriving DecidableEq, Repr

/-- An event record (TABLE 9-5a). -/
structure Event where
  kind : EventKind
  station : Option Station := none
  code : Option Code := none
  value : Option EventValue := none
  reason : Option EventReason := none
  deriving DecidableEq, Repr

/-- The collections that the search and read commands reach (TABLE 2-7). -/
inductive Table where
  | journal
  | loans
  | blocks
  | flags
  | balances
  | closures
  deriving DecidableEq, Repr

/-- The FIND fields (TABLE 2-7). -/
inductive Field where
  | borrower
  | item
  deriving DecidableEq, Repr

/-- A search in flight (R40): its table, field, pattern and position. -/
structure Search where
  table : Table
  field : Field
  pattern : Code
  position : Nat
  deriving DecidableEq, Repr

/-- A terminal port (TABLE 9-1). -/
structure PortState where
  role : Role
  phase : Phase
  /-- The command buffer: the command code and the parameter bytes collected so far. -/
  command : List Byte
  /-- The result bytes not yet read. -/
  result : List Byte
  ignored : Bool
  events : List Event
  lost : Nat
  attention : Bool
  search : Option Search
  /-- The byte the LD-4 returned at the last data read of the port, none since the start (log entry 16). -/
  readOut : Option Byte
  deriving DecidableEq, Repr

/-! ### The whole machine -/

/-- The state of the LD-4. -/
structure State where
  /-- The part has started, and neither reset nor a loss of power has stopped it since (R191). -/
  running : Bool
  mainPower : Bool
  resetHeld : Bool
  pfail : Bool
  /-- The record-memory marker, valid or not (R191). -/
  marker : Bool
  /-- The record-memory collections. -/
  rm : Collections
  commit : CommitArea
  config : Configuration
  checkWord : Word16
  nextSlip : Nat
  clock : Clock
  /-- A closure purge that waits for PFAIL to fall (R62). -/
  purgeWaits : Bool
  /-- The high-water arming (R38). -/
  armed : Bool
  stations : PerStation WandStation
  slots : PerStation Slot
  slip : SlipUnit
  link : Link
  ports : PerPort PortState
  mode : Mode
  /-- Mode control's own window open flag (R188). -/
  modeWindow : Bool
  modeHold : Bool
  /-- The commands that wait, first in, first out. -/
  pending : List Instr
  deriving DecidableEq, Repr

/-- What stops the LD-4 with a fault: nothing. The spec gives the part no state in which it stops at a command, and every
command has a next state in every state (log entry 2), so this type has no constructor and no step raises one: safe. -/
inductive Fault where
  deriving DecidableEq

/-- Why a command has no meaning. -/
inductive Refusal where
  /-- Raised by an arm of `exec` whose command has no meaning yet; safe. No arm raises it in this model. -/
  | notModelled (mnemonic : String)
  deriving DecidableEq, Repr

/-! ### Values after a start -/

/-- Empty collections (R192). -/
def Collections.fresh : Collections := ⟨[], [], [], [], [], [], 0, none, none⟩

/-- The clock after a cold start (R63). -/
def Clock.cold : Clock := ⟨0, 0, 0, true⟩

/-- A station after every start (TABLE 1-10). -/
def WandStation.fresh : WandStation := ⟨false, none, .disabled, none, [], false, none⟩

/-- A slot in IDLE (R99). -/
def Slot.fresh : Slot := ⟨.idle, none, false, none, none, false, [], none, none⟩

/-- The SLIP UNIT after every start (R143), with the level its PAPER-OUT input has; the sleep request has been sent. -/
def SlipUnit.fresh (paperOut : Bool) : SlipUnit :=
  ⟨[], [], PerStation.const none, .asleep, false, none, 0, 0, false, paperOut, [0x0F#8]⟩

/-- The link after a start with the window not open (R168), seeded. -/
def Link.fresh (seed : Word16) : Link :=
  ⟨.idle, false, .none, 0, 0, 0, 0, false, none, seed, .none, .off, none, none, []⟩

/-- A port after every start, before its STARTED is posted (R187). -/
def PortState.fresh (r : Role) : PortState := ⟨r, .commandIdle, [], [], false, [], 0, false, none, none⟩

/-- A port with the STARTED event of a cold start alone in its queue (R187). -/
def PortState.coldStarted (r : Role) : PortState :=
  { PortState.fresh r with events := [{ kind := .started, reason := some (.start .cold) }] }

/-- The machine right after reset: a cold start (R192) has just been made with the strap of Port A at STAFF and that of
Port B at KIOSK, PFAIL low and paper in the printer (log entries 10 and 11). The seed is 257 (R152). -/
def State.reset : State where
  running := true
  mainPower := true
  resetHeld := false
  pfail := false
  marker := true
  rm := Collections.fresh
  commit := .empty
  config := Configuration.factory
  checkWord := checkWordOf Configuration.factory
  nextSlip := 1
  clock := Clock.cold
  purgeWaits := false
  armed := true
  stations := PerStation.const WandStation.fresh
  slots := PerStation.const Slot.fresh
  slip := SlipUnit.fresh false
  link := Link.fresh 257#16
  ports := ⟨PortState.coldStarted .staff, PortState.coldStarted .kiosk⟩
  mode := .day
  modeWindow := false
  modeHold := false
  pending := []

end Machine

end Sys2Proof
end

