-- ==== Sys2Proof/Machine/Codes.lean ====
section
/-! DEFINITION. Borrower and item codes (Section 1.1): their digits, fields and validity. -/

namespace Sys2Proof.Machine

/-- Digit `d k` of a code, `k` from 1 to 14, as its nibble (00_scope.md, "Codes"). -/
def digit (c : Code) (k : Nat) : Nat := c.toNat / 16 ^ (14 - k) % 16

/-- The nibbles of a code, d1 first. -/
def digits (c : Code) : List Nat := (List.range 14).map (fun i => digit c (i + 1))

/-- No nibble is above 9. -/
def allDecimal (c : Code) : Bool := (digits c).all (· ≤ 9)

/-- The type digit names a borrower (R2). -/
def isBorrower (c : Code) : Bool := digit c 1 == 2

/-- The type digit names an item (R2). -/
def isItem (c : Code) : Bool := digit c 1 == 3

/-- The class digits of a borrower code (TABLE 1-1). -/
def borrowerClassOf (c : Code) : Fin 8 := Fin.ofNat 8 (digit c 2)

/-- The class digits of an item code (TABLE 1-1). -/
def itemClassOf (c : Code) : Fin 16 := Fin.ofNat 16 (10 * digit c 2 + digit c 3)

/-- The system number of a code: d3 to d6 of a borrower, d4 to d7 of an item (TABLE 1-1). -/
def systemOf (c : Code) : Word16 :=
  if isBorrower c then BitVec.ofNat 16 (c.toNat / 16 ^ 8) else BitVec.ofNat 16 (c.toNat / 16 ^ 7)

/-- The weight of digit `d k` in the check sum, for `k` from 1 to 13 (R2). -/
def checkWeight (k : Nat) : Nat := (13 - k) % 6 + 2

/-- The weighted sum of d1 to d13 (R2). -/
def checkSum (c : Code) : Nat := ((List.range 13).map (fun i => checkWeight (i + 1) * digit c (i + 1))).sum

/-- The check digit computed from d1 to d13; 10 where no digit will do (R2). -/
def checkDigit (c : Code) : Nat := (11 - checkSum c % 11) % 11

/-- A code is valid (R2); a nibble above 9 is no digit. -/
def codeValid (c : Code) : Bool :=
  allDecimal c
    && ((isBorrower c && decide (digit c 2 ≤ 7)) || (isItem c && decide (10 * digit c 2 + digit c 3 ≤ 15)))
    && digit c 14 == checkDigit c

/-- A valid borrower code. -/
def borrowerValid (c : Code) : Bool := codeValid c && isBorrower c

/-- A valid item code. -/
def itemValid (c : Code) : Bool := codeValid c && isItem c

/-- The code whose digits are given, d1 first. -/
def codeOfDigits (ds : List Nat) : Code := BitVec.ofNat 56 (ds.foldl (fun n d => n * 16 + d) 0)

/-- A code meets a FIND pattern: each digit equals the pattern's, a nibble FH matching any (R41). -/
def matchesPattern (pattern c : Code) : Bool :=
  ((digits pattern).zip (digits c)).all (fun (q, d) => q == 15 || q == d)

/-- A FIND pattern with a nibble from AH to EH (R40). -/
def patternBad (pattern : Code) : Bool := (digits pattern).any (fun q => decide (10 ≤ q) && decide (q ≤ 14))

/-! ### Code tails as printed (R1) -/

/-- A digit as its character. -/
def digitChar (d : Nat) : Byte := byte (48 + d)

/-- The tail of an item: the six serial digits d8 to d13. -/
def itemTail (c : Code) : List Byte := [8, 9, 10, 11, 12, 13].map (fun k => digitChar (digit c k))

/-- The tail of a borrower: "…" (85H on the printer line, Section 11) and the last four serial digits d10 to d13. -/
def borrowerTail (c : Code) : List Byte := 0x85#8 :: [10, 11, 12, 13].map (fun k => digitChar (digit c k))

end Sys2Proof.Machine
end

