-- ==== Sys2Proof/Machine/Decoder.lean ====
section
/-! DEFINITION. The symbology (Section 1.3): from the elements of a symbol to a code. -/

namespace Sys2Proof.Machine

/-- Element `i` of a symbol, counted from 1. -/
def element (els : List Nat) (i : Nat) : Nat := els.getD (i - 1) 0

/-- Three elements read as W N N (R6). -/
def readsWNN (a b c : Nat) : Bool := decide (3 * b ≤ 2 * a) && decide (3 * c ≤ 2 * a)

/-- Three elements read as W W N (R6). -/
def readsWWN (a b c : Nat) : Bool := decide (3 * c ≤ 2 * min a b)

/-- The element list in the direction R6 fixes, if it fixes one. -/
def directed (els : List Nat) : Option (List Nat) :=
  if readsWNN (element els 1) (element els 2) (element els 3) then some els
  else if readsWWN (element els 1) (element els 2) (element els 3) then some els.reverse
  else none

/-- The start guard, elements 1 to 3 (R7). -/
def startGuard (els : List Nat) : Bool := readsWNN (element els 1) (element els 2) (element els 3)

/-- The stop guard, elements 89 to 91 (R7). -/
def stopGuard (els : List Nat) : Bool :=
  decide (3 * element els 89 ≤ 2 * element els 90) && decide (3 * element els 89 ≤ 2 * element els 91)

/-- The wide pairs of TABLE 1-5, the pair of digit 0 first; positions counted from 1. -/
def widePairs : List (Nat × Nat) := [(1, 2), (1, 3), (1, 4), (1, 5), (2, 3), (2, 4), (2, 5), (3, 4), (3, 5), (4, 5)]

/-- The five elements of character `k`: 6k − 1 to 6k + 3 (TABLE 1-4). -/
def character (els : List Nat) (k : Nat) : List Nat := (List.range 5).map (fun i => element els (6 * k - 1 + i))

/-- The elements of a character outside a pair of positions. -/
def narrows (five : List Nat) (pair : Nat × Nat) : List Nat :=
  ([1, 2, 3, 4, 5].filter (fun i => i != pair.1 && i != pair.2)).map (element five)

/-- The greatest of some elements. -/
def widest (l : List Nat) : Nat := l.foldl max 0

/-- The narrower of the two elements of a pair. -/
def narrowerWide (five : List Nat) (pair : Nat × Nat) : Nat := min (element five pair.1) (element five pair.2)

/-- The pair holds the two longest elements, the third longest being shorter (R8). -/
def isWidePair (five : List Nat) (pair : Nat × Nat) : Bool := decide (widest (narrows five pair) < narrowerWide five pair)

/-- A character classified: its digit and its narrower wide element, or none when it is not valid (R8). -/
def classify (five : List Nat) : Option (Nat × Nat) :=
  match widePairs.findIdx? (isWidePair five) with
  | none => none
  | some d =>
    let pair := widePairs.getD d (1, 2)
    let wide := narrowerWide five pair
    if 3 * widest (narrows five pair) ≤ 2 * wide ∧ five.all (fun e => five.all (fun x => decide (e ≤ 5 * x))) then
      some (d, wide)
    else none

/-- The digits of characters `ks`, each gap after its character tested (R7, R8). -/
def readCharacters (els : List Nat) : List Nat → Option (List Nat)
  | [] => some []
  | k :: ks =>
    match classify (character els k) with
    | none => none
    | some (d, wide) =>
      if element els (6 * k + 4) < wide then (readCharacters els ks).map (d :: ·) else none

/-- A symbol of `count` elements decoded into a code (R6 to R9), or none when it fails. -/
def decodeElements (kept : List Nat) (count : Nat) : Option Code :=
  if count = 91 then
    match directed kept with
    | none => none
    | some els =>
      if startGuard els && stopGuard els && decide (element els 4 < element els 1) then
        match readCharacters els ((List.range 14).map (· + 1)) with
        | none => none
        | some ds => if codeValid (codeOfDigits ds) then some (codeOfDigits ds) else none
      else none
  else none

end Sys2Proof.Machine
end

