-- ==== Sys2Proof/Machine/Ops.lean ====
section
/-! DEFINITION. The operations that read and write the state: ports and their event queues (Section 9), stations and tones
(Section 1), the record-memory collections with the searches that stand in them (Section 2), and settings writes (R194). -/

namespace Sys2Proof.Machine

/-! ### Parts of the state -/

def State.port (s : State) (p : Port) : PortState := s.ports.get p
def State.station (s : State) (st : Station) : WandStation := s.stations.get st
def State.slot (s : State) (st : Station) : Slot := s.slots.get st
def State.stationConfig (s : State) (st : Station) : StationConfig := s.config.stations.get st
/-- The owner port of a station (1.8). -/
def State.owner (s : State) (st : Station) : Option Port := (s.stationConfig st).owner

def State.putPort (s : State) (p : Port) (x : PortState) : State := { s with ports := s.ports.set p x }
def State.putStation (s : State) (st : Station) (x : WandStation) : State := { s with stations := s.stations.set st x }
def State.putSlot (s : State) (st : Station) (x : Slot) : State := { s with slots := s.slots.set st x }

/-- The stations in ascending order. -/
def allStations : List Station := [.s0, .s1, .s2, .s3]

/-- The other port. -/
def otherPort : Port → Port
  | .A => .B
  | .B => .A

/-- The number of a station. -/
def stationNumber : Station → Nat
  | .s0 => 0
  | .s1 => 1
  | .s2 => 2
  | .s3 => 3

/-! ### Events (R181, R182) -/

/-- An event offered to a port's queue: it joins the newest end, or is dropped and counted when 8 wait (R182). -/
def PortState.offer (q : PortState) (e : Event) : PortState :=
  if q.events.length < Config.eventQueueMax then { q with events := q.events ++ [e] }
  else { q with lost := min 255 (q.lost + 1) }

/-- An event posted to a named port. -/
def post (p : Port) (e : Event) (s : State) : State := s.putPort p ((s.port p).offer e)

/-- An event posted to a port if its role is STAFF. -/
def postIfStaff (p : Port) (e : Event) (s : State) : State := if (s.port p).role = .staff then post p e s else s

/-- An event posted to each STAFF port (R181). -/
def postStaff (e : Event) (s : State) : State := postIfStaff .B e (postIfStaff .A e s)

/-- An event posted to every port (R181). -/
def postAll (e : Event) (s : State) : State := post .B e (post .A e s)

/-- An event posted to the owner port of a station, if it has one. -/
def postOwner (st : Station) (e : Event) (s : State) : State :=
  match s.owner st with
  | some p => post p e s
  | none => s

/-- An event posted to the owner port of a station, or to each STAFF port when it has none (R15). -/
def postOwnerOrStaff (st : Station) (e : Event) (s : State) : State :=
  match s.owner st with
  | some p => post p e s
  | none => postStaff e s

/-! ### Stations -/

/-- A request for an indicator pattern: it starts at once and cuts off any other (R17). -/
def tone (st : Station) (x : Pattern) (s : State) : State :=
  s.putStation st { s.station st with indicator := some x }

/-- SCAN-READY for one code (R12). -/
def scanReady (st : Station) (c : Code) (s : State) : State :=
  postOwner st { kind := .scanReady, station := some st, code := some c } s

/-- SCAN-READY for each waiting code, oldest first (R12). -/
def reportWaiting (st : Station) (s : State) : State := (s.station st).scans.foldl (fun t c => scanReady st c t) s

/-- A code joins the scan slots behind any waiting code; an IDLE slot's station reports it (R11, R12). -/
def joinScans (st : Station) (c : Code) (s : State) : State :=
  let s' := s.putStation st { s.station st with scans := (s.station st).scans ++ [c] }
  if (s.slot st).state = .idle then scanReady st c s' else s'

/-- The oldest code leaves its scan slot, and the overflow flag is cleared (R11). -/
def dropOldestScan (st : Station) (s : State) : State :=
  s.putStation st { s.station st with scans := (s.station st).scans.tail, overflow := false }

/-! ### Ordered collections (R24, R45, R70) and the searches in them (R41) -/

/-- Insertion at the position that keeps the ascending order of the keys. -/
def insertBy {α : Type} (key : α → Nat) (x : α) : List α → List α
  | [] => [x]
  | y :: ys => if key x < key y then x :: y :: ys else y :: insertBy key x ys

/-- The number of entries whose key is below `k`: the index of `k` in an ordered collection. -/
def rank {α : Type} (key : α → Nat) (k : Nat) (l : List α) : Nat := l.countP (fun y => key y < k)

/-- The entry with key `k`, if there is one. -/
def lookupBy {α : Type} (key : α → Nat) (k : Nat) (l : List α) : Option α := l.find? (fun y => key y == k)

/-- The collection without its entry of key `k`. -/
def removeBy {α : Type} (key : α → Nat) (k : Nat) (l : List α) : List α := l.filter (fun y => key y != k)

/-- The collection with its entry of the key of `x` overwritten in place by `x`. -/
def replaceBy {α : Type} (key : α → Nat) (x : α) (l : List α) : List α :=
  l.map (fun y => if key y = key x then x else y)

def Loan.key (l : Loan) : Nat := l.item.toNat
def Block.key (b : Block) : Nat := b.borrower.toNat
def FlagEntry.key (f : FlagEntry) : Nat := f.item.toNat

/-- A port's search with its position moved, if it stands in the table. -/
def PortState.moveSearch (q : PortState) (t : Table) (f : Nat → Nat) : PortState :=
  { q with search := q.search.map (fun x => if x.table = t then { x with position := f x.position } else x) }

/-- The positions of both ports' searches in a table moved (R41). -/
def moveSearches (t : Table) (f : Nat → Nat) (s : State) : State :=
  { s with ports := ⟨s.ports.a.moveSearch t f, s.ports.b.moveSearch t f⟩ }

/-- An entry was inserted at index `i`: it raises the index of every entry from there on (R41). -/
def insertedAt (i pos : Nat) : Nat := if i < pos then pos + 1 else pos

/-- The entry at index `i` was removed: the position moves with the entries after it (R41). -/
def removedAt (i pos : Nat) : Nat := if i < pos then pos - 1 else pos

def State.loanOf (s : State) (item : Code) : Option Loan := lookupBy Loan.key item.toNat s.rm.loans
def State.blockOf (s : State) (b : Code) : Option Block := lookupBy Block.key b.toNat s.rm.blocks
def State.flagOf (s : State) (item : Code) : Option FlagEntry := lookupBy FlagEntry.key item.toNat s.rm.flags

/-- The number of loans of a borrower (R25). -/
def State.loanCount (s : State) (b : Code) : Nat := s.rm.loans.countP (fun l => l.borrower == b)

/-- A LOAN TABLE insertion (R24). -/
def insertLoan (l : Loan) (s : State) : State :=
  moveSearches .loans (insertedAt (rank Loan.key l.key s.rm.loans))
    { s with rm := { s.rm with loans := insertBy Loan.key l s.rm.loans } }

/-- A LOAN TABLE removal, of no effect where the item has no entry (R24). -/
def removeLoan (item : Code) (s : State) : State :=
  match s.loanOf item with
  | none => s
  | some _ =>
    moveSearches .loans (removedAt (rank Loan.key item.toNat s.rm.loans))
      { s with rm := { s.rm with loans := removeBy Loan.key item.toNat s.rm.loans } }

/-- A LOAN TABLE entry changed in place (R27). -/
def replaceLoan (l : Loan) (s : State) : State :=
  { s with rm := { s.rm with loans := replaceBy Loan.key l s.rm.loans } }

/-- A BLOCK LIST entry created, or overwritten in place (R45). -/
def putBlock (b : Block) (s : State) : State :=
  match s.blockOf b.borrower with
  | some _ => { s with rm := { s.rm with blocks := replaceBy Block.key b s.rm.blocks } }
  | none =>
    moveSearches .blocks (insertedAt (rank Block.key b.key s.rm.blocks))
      { s with rm := { s.rm with blocks := insertBy Block.key b s.rm.blocks } }

/-- A BLOCK LIST removal, of no effect where the borrower is not listed (R45). -/
def removeBlockOf (b : Code) (s : State) : State :=
  match s.blockOf b with
  | none => s
  | some _ =>
    moveSearches .blocks (removedAt (rank Block.key b.toNat s.rm.blocks))
      { s with rm := { s.rm with blocks := removeBy Block.key b.toNat s.rm.blocks } }

/-- An ITEM FLAG TABLE entry created, or overwritten in place (R55). -/
def putFlag (f : FlagEntry) (s : State) : State :=
  match s.flagOf f.item with
  | some _ => { s with rm := { s.rm with flags := replaceBy FlagEntry.key f s.rm.flags } }
  | none =>
    moveSearches .flags (insertedAt (rank FlagEntry.key f.key s.rm.flags))
      { s with rm := { s.rm with flags := insertBy FlagEntry.key f s.rm.flags } }

/-- An ITEM FLAG TABLE removal, of no effect where the item has no entry (R55). -/
def removeFlagOf (item : Code) (s : State) : State :=
  match s.flagOf item with
  | none => s
  | some _ =>
    moveSearches .flags (removedAt (rank FlagEntry.key item.toNat s.rm.flags))
      { s with rm := { s.rm with flags := removeBy FlagEntry.key item.toNat s.rm.flags } }

/-- A closure inserted in ascending order (R70). -/
def insertClosure (day : Nat) (s : State) : State :=
  { s with rm := { s.rm with closures := insertBy id day s.rm.closures } }

/-- A closure removed (R70). -/
def dropClosure (day : Nat) (s : State) : State :=
  { s with rm := { s.rm with closures := removeBy id day s.rm.closures } }

/-! ### The journal (2.2) -/

/-- A record as its writer gives it; the sequence, the instant and the upload state are the journal's (R30, R32, R33). -/
structure Entry where
  kind : RecordKind
  station : Option Station := none
  port : Port
  flags : RecordFlags := {}
  borrower : Option Code := none
  item : Option Code := none
  dueDay : Option Nat := none
  dueMinute : Option Nat := none
  amount : Option Nat := none

/-- A record written at the newest end, PENDING, with the next sequence and the clock's instant (R30 to R33). -/
def writeRecord (e : Entry) (s : State) : State :=
  let r : Record :=
    { seq := s.rm.nextSeq, kind := e.kind, day := s.clock.day, minute := s.clock.minute, station := e.station,
      port := e.port, flags := e.flags, borrower := e.borrower, item := e.item, dueDay := e.dueDay,
      dueMinute := e.dueMinute, amount := e.amount, sent := false }
  { s with rm := { s.rm with journal := s.rm.journal ++ [r], nextSeq := (s.rm.nextSeq + 1) % 65536 } }

/-- The journal has room for `n` more records (R35). -/
def State.hasRoom (s : State) (n : Nat) : Bool := s.rm.journal.length + n ≤ Config.journalMax

/-- The number of PENDING records (R33). -/
def State.pendingCount (s : State) : Nat := s.rm.journal.countP (fun r => !r.sent)

/-- Every SENT record returned to PENDING (R33). -/
def unsend (s : State) : State :=
  { s with rm := { s.rm with journal := s.rm.journal.map (fun r => { r with sent := false }) } }

/-- The oldest `n` records marked SENT (R154). -/
def markSent (n : Nat) (s : State) : State :=
  { s with rm := { s.rm with
      journal := (s.rm.journal.take n).map (fun r => { r with sent := true }) ++ s.rm.journal.drop n } }

/-- The oldest `n` records removed (R34). -/
def dropRecords (n : Nat) (s : State) : State :=
  moveSearches .journal (fun pos => pos - n) { s with rm := { s.rm with journal := s.rm.journal.drop n } }

/-- The end of a step that wrote records: JOURNAL-HIGH to each STAFF port, once while armed (R38). -/
def highWater (s : State) : State :=
  if s.armed && decide (Config.highWaterMark ≤ s.rm.journal.length) then
    { postStaff { kind := .journalHigh, value := some (.number s.rm.journal.length) } s with armed := false }
  else s

/-- The arming after a confirmation (R38). -/
def rearm (s : State) : State :=
  if s.rm.journal.length < Config.rearmMark then { s with armed := true } else s

/-! ### Settings (R194) -/

/-- The settings written with their new check word (R194). -/
def writeSettings (c : Configuration) (s : State) : State := { s with config := c, checkWord := checkWordOf c }

/-- A station's configuration written. -/
def writeStationConfig (st : Station) (x : StationConfig) (s : State) : State :=
  writeSettings { s.config with stations := s.config.stations.set st x } s

end Sys2Proof.Machine
end

