-- ==== Sys2Proof/Machine/Operands.lean ====
section
/-! DEFINITION. The operands of the port commands: the selector bytes of TABLE 11-5 and TABLE 11-3 as they are read from the
parameters (R195), and the number of parameter bytes of each command (TABLE 11-2, R173). -/

namespace Sys2Proof.Machine

def stationOfByte (b : Byte) : Option Station :=
  if b = 0x00#8 then some .s0 else if b = 0x01#8 then some .s1 else if b = 0x02#8 then some .s2
  else if b = 0x03#8 then some .s3 else none

/-- An owner selector: a port, or none (TABLE 11-5). -/
def ownerOfByte (b : Byte) : Option (Option Port) :=
  if b = 0x00#8 then some (some .A) else if b = 0x01#8 then some (some .B)
  else if b = 0xFF#8 then some none else none

def txModeOfByte (b : Byte) : Option TxMode :=
  if b = 0x00#8 then some .checkout else if b = 0x01#8 then some .returning
  else if b = 0x02#8 then some .renewing else none

/-- A selector of 0 or 1. -/
def boolOfByte (b : Byte) : Option Bool :=
  if b = 0x00#8 then some false else if b = 0x01#8 then some true else none

def itemFlagOfByte (b : Byte) : Option ItemFlag :=
  if b = 0x01#8 then some .reserved else if b = 0x02#8 then some .withdrawn
  else if b = 0x03#8 then some .missing else if b = 0x04#8 then some .reference else none

def blockReasonOfByte (b : Byte) : Option BlockReason :=
  if b = 0x01#8 then some .centralFines else if b = 0x02#8 then some .lostCard
  else if b = 0x03#8 then some .expired else if b = 0x04#8 then some .staff
  else if b = 0x05#8 then some .localFines else if b = 0x06#8 then some .other else none

def classKindOfByte (b : Byte) : Option ClassKind :=
  if b = 0x00#8 then some .day else if b = 0x01#8 then some .hour else none

def modeOfByte (b : Byte) : Option Mode :=
  if b = 0x00#8 then some .day else if b = 0x01#8 then some .night else none

/-- A table number (TABLE 2-7). -/
def tableOfByte (b : Byte) : Option Table :=
  if b = 0x00#8 then some .journal else if b = 0x01#8 then some .loans else if b = 0x02#8 then some .blocks
  else if b = 0x03#8 then some .flags else if b = 0x04#8 then some .balances
  else if b = 0x05#8 then some .closures else none

def fieldOfByte (b : Byte) : Option Field :=
  if b = 0x00#8 then some .borrower else if b = 0x01#8 then some .item else none

/-- The FIND fields of each table (TABLE 2-7). -/
def hasFindField : Table → Field → Bool
  | .journal, _ => true
  | .loans, _ => true
  | .blocks, f => f = .borrower
  | .flags, _ => true
  | .balances, _ => false
  | .closures, _ => false

/-- An item class parameter, 0 to 15. -/
def itemClassOfByte (b : Byte) : Option (Fin 16) := if h : b.toNat < 16 then some ⟨b.toNat, h⟩ else none

/-- A borrower class parameter, 0 to 7. -/
def borrowerClassOfByte (b : Byte) : Option (Fin 8) := if h : b.toNat < 8 then some ⟨b.toNat, h⟩ else none

/-- A weekday parameter, 0 to 6. -/
def weekdayOfByte (b : Byte) : Option (Fin 7) := if h : b.toNat < 7 then some ⟨b.toNat, h⟩ else none

/-- A character outside 20H to 7EH is taken as a space (R134, R136). -/
def printable (b : Byte) : Byte := if 0x20#8 ≤ b && b ≤ 0x7E#8 then b else 0x20#8

/-- The commands with a fixed number of parameter bytes (TABLE 11-2); PRINT NOTE, 50H, stands with its first byte alone. -/
def parameterTable : List (Byte × Nat) :=
  [(0x01#8, 0), (0x02#8, 1), (0x03#8, 0), (0x04#8, 0), (0x10#8, 2), (0x11#8, 1), (0x12#8, 1), (0x13#8, 8), (0x14#8, 5),
   (0x20#8, 3), (0x21#8, 1), (0x22#8, 1), (0x23#8, 1), (0x24#8, 1), (0x30#8, 11), (0x31#8, 0), (0x32#8, 3), (0x33#8, 10),
   (0x34#8, 8), (0x35#8, 7), (0x36#8, 15), (0x37#8, 7), (0x38#8, 0)] ++
  [(0x40#8, 4), (0x41#8, 0), (0x42#8, 5), (0x43#8, 2), (0x44#8, 2), (0x45#8, 3), (0x46#8, 8), (0x47#8, 4), (0x48#8, 2),
   (0x49#8, 3), (0x50#8, 1), (0x51#8, 1), (0x52#8, 0), (0x53#8, 32), (0x54#8, 2), (0x60#8, 0), (0x61#8, 0), (0x62#8, 0),
   (0x63#8, 8), (0x70#8, 1)]

/-- The parameter bytes of a command code before any that a line count adds; none for a code not in the table (R172). -/
def fixedParameters (code : Byte) : Option Nat := parameterTable.lookup code

/-- The number of parameter bytes a command takes, given the parameters collected so far. For PRINT NOTE it is
1 + 32 times a line count of 1 to 6, and otherwise 1 (R173). -/
def parametersWanted (code : Byte) (params : List Byte) : Nat :=
  if code = 0x50#8 then
    match params with
    | [] => 1
    | n :: _ => if 1 ≤ n.toNat && n.toNat ≤ 6 then 1 + 32 * n.toNat else 1
  else (fixedParameters code).getD 0

/-- The commands of the STAFF-only set (TABLE 9-4). -/
def staffOnly (code : Byte) : Bool :=
  [0x10#8, 0x14#8, 0x23#8, 0x33#8, 0x34#8, 0x35#8, 0x36#8, 0x37#8, 0x40#8, 0x42#8, 0x43#8, 0x44#8, 0x45#8, 0x46#8, 0x47#8,
   0x49#8, 0x53#8, 0x54#8, 0x60#8, 0x61#8, 0x63#8, 0x70#8].contains code

end Sys2Proof.Machine
end

