-- ==== Sys2Proof/Machine/Layouts.lean ====
section
/-! DEFINITION. The byte layouts of Section 11: the codes of TABLE 11-3 and TABLE 11-5, the event record, and the entry layouts
of TABLE 11-4. -/

namespace Sys2Proof.Machine

/-- Completion codes (TABLE 9-6). -/
inductive Completion where
  | ok
  | unknownCommand
  | notPermitted
  | badParameter
  | notOwner
  | wrongState
  | busy
  | empty
  | full
  | tableFull
  | alreadyExists
  | notFound
  | badCode
  | clockUnset
  | night
  | journalFull
  | hasItems
  deriving DecidableEq, Repr

def Completion.code : Completion → Byte
  | .ok => 0x00#8
  | .unknownCommand => 0x01#8
  | .notPermitted => 0x02#8
  | .badParameter => 0x03#8
  | .notOwner => 0x04#8
  | .wrongState => 0x05#8
  | .busy => 0x06#8
  | .empty => 0x07#8
  | .full => 0x08#8
  | .tableFull => 0x09#8
  | .alreadyExists => 0x0A#8
  | .notFound => 0x0B#8
  | .badCode => 0x0C#8
  | .clockUnset => 0x0D#8
  | .night => 0x0E#8
  | .journalFull => 0x0F#8
  | .hasItems => 0x10#8

def EventKind.code : EventKind → Byte
  | .patronOk => 0x01#8
  | .patronBlocked => 0x02#8
  | .itemOut => 0x03#8
  | .itemIn => 0x04#8
  | .itemRenewed => 0x05#8
  | .itemRefused => 0x06#8
  | .itemFound => 0x07#8
  | .holdShelf => 0x08#8
  | .transactionClosed => 0x09#8
  | .timedOut => 0x0A#8
  | .scanReady => 0x0B#8
  | .scanLost => 0x0C#8
  | .stationChange => 0x0D#8
  | .findDone => 0x0E#8
  | .slipPrinted => 0x0F#8
  | .printerFault => 0x10#8
  | .printerReady => 0x11#8
  | .journalHigh => 0x12#8
  | .blockListFull => 0x13#8
  | .uploadDone => 0x14#8
  | .uploadFailed => 0x15#8
  | .updateRefused => 0x16#8
  | .modeChange => 0x17#8
  | .started => 0x18#8

def Refuse.code : Refuse → Byte
  | .foreign => 0x01#8
  | .classBarred => 0x02#8
  | .blocked => 0x03#8
  | .notLoanable => 0x04#8
  | .itemHeld => 0x05#8
  | .alreadyYours => 0x06#8
  | .limit => 0x07#8
  | .transactionFull => 0x08#8
  | .calendarEnd => 0x09#8
  | .journalFull => 0x0A#8
  | .notOnLoan => 0x0B#8
  | .notYours => 0x0C#8
  | .renewalLimit => 0x0D#8
  | .needPatron => 0x0E#8
  | .wrongType => 0x0F#8

def BlockReason.code : BlockReason → Byte
  | .centralFines => 0x01#8
  | .lostCard => 0x02#8
  | .expired => 0x03#8
  | .staff => 0x04#8
  | .localFines => 0x05#8
  | .other => 0x06#8

def SearchEnd.code : SearchEnd → Byte
  | .hit => 0x01#8
  | .miss => 0x02#8
  | .aborted => 0x03#8

def FailReason.code : FailReason → Byte
  | .collisions => 0x01#8
  | .noLine => 0x02#8
  | .noReply => 0x03#8
  | .centralBusy => 0x04#8
  | .stopped => 0x05#8

def Mode.code : Mode → Byte
  | .day => 0x00#8
  | .night => 0x01#8

def StartKind.code : StartKind → Byte
  | .cold => 0x01#8
  | .warm => 0x02#8
  | .warmConfigLost => 0x03#8

def EventReason.code : EventReason → Byte
  | .refuse r => r.code
  | .block r => r.code
  | .search r => r.code
  | .fail r => r.code
  | .presence p => bit p
  | .mode m => m.code
  | .start k => k.code

def roleCode : Role → Byte
  | .staff => 0x00#8
  | .kiosk => 0x01#8

def SlotState.code : SlotState → Byte
  | .idle => 0x00#8
  | .awaitPatron => 0x01#8
  | .patronBlocked => 0x02#8
  | .serving => 0x03#8
  | .returning => 0x04#8
  | .closing => 0x05#8

def TxMode.code : TxMode → Byte
  | .checkout => 0x00#8
  | .returning => 0x01#8
  | .renewing => 0x02#8

def ItemFlag.code : ItemFlag → Byte
  | .reserved => 0x01#8
  | .withdrawn => 0x02#8
  | .missing => 0x03#8
  | .reference => 0x04#8

def Origin.code : Origin → Byte
  | .central => 0x01#8
  | .staff => 0x02#8
  | .localLogic => 0x03#8

def PrinterState.code : PrinterState → Byte
  | .asleep => 0x00#8
  | .waking => 0x01#8
  | .ready => 0x02#8
  | .printing => 0x03#8
  | .noPaper => 0x04#8
  | .settling => 0x05#8

def RunState.code : RunState → Byte
  | .idle => 0x00#8
  | .armed => 0x01#8
  | .contend => 0x02#8
  | .sendData => 0x03#8
  | .awaitAck => 0x04#8
  | .sendPoll => 0x05#8
  | .awaitUpdate => 0x06#8
  | .sendReply => 0x07#8

/-- The last outcome and its reason, FFH unless FAILED (TABLE 11-5). -/
def LastOutcome.bytes : LastOutcome → List Byte
  | .none => [0x00#8, 0xFF#8]
  | .done => [0x01#8, 0xFF#8]
  | .failed r => [0x02#8, r.code]

def RecordKind.code : RecordKind → Byte
  | .checkout => 0x01#8
  | .returned => 0x02#8
  | .renewed => 0x03#8
  | .fine => 0x04#8
  | .payment => 0x05#8
  | .override => 0x06#8
  | .blockSet => 0x07#8
  | .blockClear => 0x08#8
  | .flagSet => 0x09#8
  | .flagClear => 0x0A#8

/-- The flags byte of a record, NOT-TABLED in bit 0 to LOCAL in bit 7. -/
def RecordFlags.code (f : RecordFlags) : Byte :=
  byte (f.notTabled.toNat + 2 * f.overridden.toNat + 4 * f.hour.toNat + 8 * f.implicit.toNat + 16 * f.unknown.toNat
    + 32 * f.foreign.toNat + 64 * f.untracked.toNat + 128 * f.localLogic.toNat)

/-- The kind byte of a record: the kind in the low seven bits, bit 7 set for SENT. -/
def Record.kindByte (r : Record) : Byte := if r.sent then r.kind.code ||| 0x80#8 else r.kind.code

/-- The port and station byte of a record: the port in the high nibble, the station or FH in the low. -/
def Record.placeByte (r : Record) : Byte :=
  byte (16 * portNumber r.port + (match r.station with | some st => stationNumber st | none => 15))

/-- A JOURNAL record, 30 bytes. -/
def Record.bytes (r : Record) : List Byte :=
  be16 r.seq ++ [r.kindByte] ++ be16 r.day ++ be16 r.minute ++ [r.placeByte, r.flags.code] ++ codeOrAbsent r.borrower
    ++ codeOrAbsent r.item ++ be16OrAbsent r.dueDay ++ be16OrAbsent r.dueMinute ++ be24OrAbsent r.amount

/-- A LOAN TABLE entry, 27 bytes. -/
def Loan.bytes (l : Loan) : List Byte :=
  codeBytes l.item ++ codeBytes l.borrower ++ [byte l.itemClass.val, byte l.borrowerClass.val] ++ be16 l.outDay
    ++ be16 l.outMinute ++ be16 l.dueDay ++ be16OrAbsent l.dueMinute ++ [byte l.renewals] ++ be16 l.seq

/-- A BLOCK LIST entry, 11 bytes. -/
def Block.bytes (b : Block) : List Byte := codeBytes b.borrower ++ [b.reason.code, b.origin.code] ++ be16 b.dayAdded

/-- An ITEM FLAG TABLE entry, 17 bytes. -/
def FlagEntry.bytes (f : FlagEntry) : List Byte :=
  codeBytes f.item ++ [f.flag.code] ++ codeOrAbsent f.reserver ++ be16 f.daySet

/-- A BALANCE TABLE entry, 10 bytes. -/
def Balance.bytes (b : Balance) : List Byte := codeBytes b.borrower ++ be24 b.amount

/-- The bytes of the entry of a table at an index, if there is one (R43, TABLE 11-4). -/
def Collections.entryBytes (c : Collections) (t : Table) (i : Nat) : Option (List Byte) :=
  match t with
  | .journal => (c.journal[i]?).map Record.bytes
  | .loans => (c.loans[i]?).map Loan.bytes
  | .blocks => (c.blocks[i]?).map Block.bytes
  | .flags => (c.flags[i]?).map FlagEntry.bytes
  | .balances => (c.balances[i]?).map Balance.bytes
  | .closures => (c.closures[i]?).map be16

/-- The number of entries of a table. -/
def Collections.count (c : Collections) (t : Table) : Nat :=
  match t with
  | .journal => c.journal.length
  | .loans => c.loans.length
  | .blocks => c.blocks.length
  | .flags => c.flags.length
  | .balances => c.balances.length
  | .closures => c.closures.length

/-- The value of an event, four bytes in its form (Section 11). -/
def EventValue.bytes : EventValue → List Byte
  | .due day minute => be16 day ++ be16OrAbsent minute
  | .amount n => 0x00#8 :: be24 n
  | .number n => [0x00#8, 0x00#8] ++ be16 n
  | .counts a b => be16 a ++ be16 b

/-- An event record, 14 bytes: kind, station, code, value, reason, absent fields as absent values. -/
def Event.bytes (e : Event) : List Byte :=
  [e.kind.code] ++ (match e.station with | some st => [byte (stationNumber st)] | none => absent 1) ++ codeOrAbsent e.code
    ++ (match e.value with | some v => v.bytes | none => absent 4)
    ++ (match e.reason with | some r => [r.code] | none => absent 1)

end Sys2Proof.Machine
end

