-- ==== Sys2Proof/Machine/Calendar.lean ====
section
/-! DEFINITION. Open days, the due computation and the printed date forms (Section 4). -/

namespace Sys2Proof.Machine

/-! ### Open days (R68) -/

/-- The hours of the weekday of a day. -/
def hoursOf (cfg : Configuration) (day : Nat) : DayHours := cfg.hours.get (Fin.ofNat 7 day)

/-- A day is open: its weekday has hours and it is not on the closure list. -/
def isOpenDay (cfg : Configuration) (closures : List Nat) (day : Nat) : Bool :=
  decide ((hoursOf cfg day).openAt < (hoursOf cfg day).closeAt) && !closures.contains day

/-! ### The due computation (R77 to R81) -/

/-- The facts that a due computation notes (R77). -/
structure DueFacts where
  clamped : Bool := false
  closedDue : Bool := false
  elapsed : Bool := false
  deriving DecidableEq, Repr

/-- The outcomes of a due computation (R77); CALENDAR-END with whether ELAPSED is reported beside it (log entry 32). -/
inductive DueOutcome where
  | due (day : Nat) (minute : Option Nat) (facts : DueFacts)
  | notLoanable
  | calendarEnd (elapsed : Bool)
  deriving DecidableEq, Repr

/-- The unclamped search of R79: at most `n` increases, stopping at an open day or at day 65,535. -/
def searchForward (isOpen : Nat → Bool) : Nat → Nat → Nat
  | 0, raw => raw
  | n + 1, raw => if isOpen raw || decide (Config.lastDay ≤ raw) then raw else searchForward isOpen n (raw + 1)

/-- The clamped search of R79: at most `n` decreases, stopping at an open day or at day `floor`. -/
def searchBack (isOpen : Nat → Bool) (floor : Nat) : Nat → Nat → Nat
  | 0, raw => raw
  | n + 1, raw => if isOpen raw || decide (raw ≤ floor) then raw else searchBack isOpen floor n (raw - 1)

/-- A DAY-kind due for a loan made on day `d` with period `period` and term limit `limit` (R78, R79). -/
def dueDay (isOpen : Nat → Bool) (d period : Nat) (limit : Option Nat) : DueOutcome :=
  if d = Config.lastDay then .calendarEnd false
  else
    let raw := min (d + period) Config.lastDay
    let clampTo := limit.filter (fun l => decide (d < l) && decide (l < raw))
    let day := match clampTo with
      | some l => searchBack isOpen (d + 1) 14 l
      | none => searchForward isOpen 14 raw
    .due day none { clamped := clampTo.isSome, closedDue := !isOpen day }

/-- The first open day after `day`, up to day `last` and not past 65,535, looking at `n` days (R80, R81). -/
def nextOpenDay (isOpen : Nat → Bool) (last : Nat) : Nat → Nat → Option Nat
  | 0, _ => none
  | n + 1, day =>
    if last < day + 1 ∨ Config.lastDay < day + 1 then none
    else if isOpen (day + 1) then some (day + 1) else nextOpenDay isOpen last n (day + 1)

/-- The start point of an hour count from the instant `(d, m)` (R80). -/
def hourStart (cfg : Configuration) (isOpen : Nat → Bool) (d m : Nat) : Option (Nat × Nat) :=
  if isOpen d && decide (m < (hoursOf cfg d).closeAt) then some (d, max m (hoursOf cfg d).openAt)
  else (nextOpenDay isOpen (d + 14) 14 d).map (fun d' => (d', (hoursOf cfg d').openAt))

/-- The count of `left` opening minutes from the point `(day, c)`, over at most `n` days up to day `last` (R81). -/
def countHours (cfg : Configuration) (isOpen : Nat → Bool) (last : Nat) : Nat → Nat → Nat → Nat → Option (Nat × Nat)
  | 0, _, _, _ => none
  | n + 1, day, c, left =>
    let available := (hoursOf cfg day).closeAt - c
    if left ≤ available then some (day, c + left)
    else
      match nextOpenDay isOpen last 14 day with
      | none => none
      | some day' => countHours cfg isOpen last n day' (hoursOf cfg day').openAt (left - available)

/-- An HOUR-kind due for a loan made at the instant `(d, m)` with a period of `period` hours (R80, R81). R81 notes ELAPSED before it
finds that the carried instant lies past the calendar, and R77 ties the facts to a due instant: whether ELAPSED is reported
beside that CALENDAR-END is a free value (log entry 32). -/
def dueHour (cfg : Configuration) (isOpen : Nat → Bool) (d m period : Nat) : DueOutcome :=
  match (hourStart cfg isOpen d m).bind (fun (day, c) => countHours cfg isOpen (d + 14) 15 day c (period * 60)) with
  | some (day, minute) => .due day (some minute) {}
  | none =>
    let carried := d * 1440 + m + period * 60
    if Config.lastDay < carried / 1440 then .calendarEnd Config.elapsedAtCalendarEnd
    else .due (carried / 1440) (some (carried % 1440)) { elapsed := true }

/-- The period of an item class and borrower class pair. -/
def periodOf (cfg : Configuration) (ic : Fin 16) (bc : Fin 8) : Nat := (cfg.periods.get ic).get bc

/-- The due computation (R77). -/
def computeDue (cfg : Configuration) (closures : List Nat) (d m : Nat) (ic : Fin 16) (bc : Fin 8) : DueOutcome :=
  let isOpen := isOpenDay cfg closures
  let period := periodOf cfg ic bc
  if period = 0 then .notLoanable
  else
    match (cfg.itemClasses.get ic).kind with
    | .day => dueDay isOpen d period (cfg.borrowerClasses.get bc).termLimit
    | .hour => dueHour cfg isOpen d m period

/-- The due computation at an instant, from the state's settings and closure list. -/
def State.dueAt (s : State) (d m : Nat) (ic : Fin 16) (bc : Fin 8) : DueOutcome :=
  computeDue s.config s.rm.closures d m ic bc

/-- The facts byte of COMPUTE DUE (TABLE 11-5). -/
def DueFacts.code (f : DueFacts) : Byte := byte (f.clamped.toNat + 2 * f.closedDue.toNat + 4 * f.elapsed.toNat)

/-- Outcome, due day, due minute and facts of COMPUTE DUE (R82), with the item class's kind. At CALENDAR-END the facts byte carries
ELAPSED alone, where the outcome says that it is reported: the free value of log entry 32. -/
def DueOutcome.bytes (k : ClassKind) : DueOutcome → List Byte
  | .due day minute facts => [0x00#8, kindCode k] ++ be16 day ++ be16OrAbsent minute ++ [facts.code]
  | .notLoanable => [0x01#8, kindCode k] ++ absent 2 ++ absent 2 ++ [0x00#8]
  | .calendarEnd elapsed => [0x02#8, kindCode k] ++ absent 2 ++ absent 2 ++ [({ elapsed := elapsed } : DueFacts).code]

/-! ### Calendar dates (R83) -/

/-- A leap year: divisible by 4, but a century year only when divisible by 400. -/
def isLeap (year : Nat) : Bool := year % 4 == 0 && (year % 100 != 0 || year % 400 == 0)

/-- The length of a year. -/
def yearLength (year : Nat) : Nat := if isLeap year then 366 else 365

/-- The year and the offset in it, from a year and a remainder, over at most `n` years. -/
def yearOf : Nat → Nat → Nat → Nat × Nat
  | 0, year, rest => (year, rest)
  | n + 1, year, rest =>
    if yearLength year ≤ rest then yearOf n (year + 1) (rest - yearLength year) else (year, rest)

/-- First days of the months, as days after 1 January (TABLE 4-8). -/
def monthStarts (leap : Bool) : List Nat :=
  if leap then [0, 31, 60, 91, 121, 152, 182, 213, 244, 274, 305, 335]
  else [0, 31, 59, 90, 120, 151, 181, 212, 243, 273, 304, 334]

/-- A calendar date: year, month from 1, day of the month from 1. -/
structure Date where
  year : Nat
  month : Nat
  dayOfMonth : Nat
  deriving DecidableEq, Repr

/-- The date of a day number, counted from 1 January 1990 (R83). -/
def dateOf (n : Nat) : Date :=
  let (year, offset) := yearOf (n / 365 + 1) 1990 n
  let month := (monthStarts (isLeap year)).countP (· ≤ offset)
  { year := year, month := month, dayOfMonth := offset - (monthStarts (isLeap year)).getD (month - 1) 0 + 1 }

/-! ### Printed forms (R84) -/

/-- Characters as the bytes of their values. -/
def ascii (cs : List Char) : List Byte := cs.map (fun c => byte c.toNat)

/-- A number in `w` decimal digits with leading zeros. -/
def padded (w n : Nat) : List Byte := (List.range w).map (fun i => digitChar (n / 10 ^ (w - 1 - i) % 10))

/-- The three capital letters of a month. -/
def monthName (m : Nat) : List Byte :=
  ascii ([['J', 'A', 'N'], ['F', 'E', 'B'], ['M', 'A', 'R'], ['A', 'P', 'R'], ['M', 'A', 'Y'], ['J', 'U', 'N'],
    ['J', 'U', 'L'], ['A', 'U', 'G'], ['S', 'E', 'P'], ['O', 'C', 'T'], ['N', 'O', 'V'], ['D', 'E', 'C']].getD (m - 1) [])

/-- "dd MMM". -/
def dayMonthText (n : Nat) : List Byte := padded 2 (dateOf n).dayOfMonth ++ ascii [' '] ++ monthName (dateOf n).month

/-- "dd MMM yyyy". -/
def dateText (n : Nat) : List Byte := dayMonthText n ++ ascii [' '] ++ padded 4 (dateOf n).year

/-- "hh:mm"; minute 1440 is "24:00". -/
def timeText (m : Nat) : List Byte := padded 2 (m / 60) ++ ascii [':'] ++ padded 2 (m % 60)

/-- A due in its day or its hour form, by whether the due minute is present. -/
def dueText (day : Nat) : Option Nat → List Byte
  | none => ascii ['D', 'U', 'E', ' '] ++ dateText day
  | some m => ascii ['D', 'U', 'E', ' '] ++ timeText m ++ ascii [' '] ++ dayMonthText day

end Sys2Proof.Machine
end

