-- ==== Sys2Proof/Machine/Fines.lean ====
section
/-! DEFINITION. Fines, borrower balances and the threshold test (Section 5), with the local blocks of Section 3. -/

namespace Sys2Proof.Machine

/-! ### Fines (R85 to R88) -/

/-- A number of late days or hours, less the grace, at the rate and no more than the cap (R86, R88). -/
def chargeFor (row : ItemClass) (late : Nat) : Nat := min ((late - row.grace) * row.rate) row.cap

/-- The open days among `u + 1` to `e` (R86). -/
def openDaysLate (isOpen : Nat → Bool) (u e : Nat) : Nat := (List.range' (u + 1) (e - u)).countP isOpen

/-- The day fine of an entry due on day `u`, at day `e` (R86). -/
def dayFine (cfg : Configuration) (closures : List Nat) (row : ItemClass) (u e : Nat) : Nat :=
  if e ≤ u then 0 else chargeFor row (openDaysLate (isOpenDay cfg closures) u e)

/-- The open minutes of day `day` from minute `lo` up to, not including, minute `hi` (R68, R87). -/
def openMinutesIn (cfg : Configuration) (closures : List Nat) (day lo hi : Nat) : Nat :=
  if isOpenDay cfg closures day then
    min hi (hoursOf cfg day).closeAt - max lo (hoursOf cfg day).openAt
  else 0

/-- The late minutes from `(u, um)` up to, not including, `(e, em)` (R87). -/
def lateMinutes (cfg : Configuration) (closures : List Nat) (u um e em : Nat) : Nat :=
  if e * 1440 + em ≤ u * 1440 + um then 0
  else
    ((List.range' u (e + 1 - u)).map (fun day =>
      openMinutesIn cfg closures day (if day = u then um else 0) (if day = e then em else 1440))).sum

/-- The hour fine of an entry due at `(u, um)`, at `(e, em)` (R88). -/
def hourFine (cfg : Configuration) (closures : List Nat) (row : ItemClass) (u um e em : Nat) : Nat :=
  chargeFor row ((lateMinutes cfg closures u um e em + 59) / 60)

/-- The fine of a LOAN TABLE entry at the clock's instant (R85). -/
def State.fineOf (s : State) (l : Loan) : Nat :=
  match l.dueMinute with
  | none => dayFine s.config s.rm.closures (s.config.itemClasses.get l.itemClass) l.dueDay s.clock.day
  | some um =>
    hourFine s.config s.rm.closures (s.config.itemClasses.get l.itemClass) l.dueDay um s.clock.day s.clock.minute

/-! ### Balances (R89 to R91, R98) -/

/-- One FINE or PAYMENT applied to an amount, with saturation and floor (R89). -/
def applyMoney (kind : RecordKind) (cents amount : Nat) : Nat :=
  if kind = .fine then min (amount + cents) Config.amountMax
  else if kind = .payment then amount - cents else amount

/-- A FINE or PAYMENT record of a borrower. -/
def Record.isMoneyOf (b : Code) (r : Record) : Bool :=
  (r.kind == .fine || r.kind == .payment) && r.borrower == some b

/-- A FINE or PAYMENT record of a borrower without UNTRACKED (R89). -/
def Record.isTrackedOf (b : Code) (r : Record) : Bool := r.isMoneyOf b && !r.flags.untracked

/-- The fold of a borrower's tracked FINE and PAYMENT records in journal order (R89). -/
def foldBalance (b : Code) (journal : List Record) : Nat :=
  (journal.filter (Record.isTrackedOf b)).foldl (fun amount r => applyMoney r.kind (r.amount.getD 0) amount) 0

/-- A borrower's BALANCE TABLE entry. -/
def State.balanceEntry (s : State) (b : Code) : Option Balance := s.rm.balances.find? (fun x => x.borrower == b)

/-- A borrower's balance: the entry's amount, or 0 (R98). -/
def State.balanceOf (s : State) (b : Code) : Nat := ((s.balanceEntry b).map Balance.amount).getD 0

/-- A FINE or PAYMENT of a borrower written now is tracked (R90). -/
def State.tracks (s : State) (b : Code) : Bool :=
  (s.balanceEntry b).isSome || decide (s.rm.balances.length < Config.balancesMax)

/-- The borrower's entry brought to the fold when a FINE or PAYMENT is written (R90). -/
def updateBalance (kind : RecordKind) (b : Code) (cents : Nat) (s : State) : State :=
  match s.balanceEntry b with
  | some _ =>
    { s with rm := { s.rm with balances := s.rm.balances.map (fun x =>
        if x.borrower = b then { x with amount := applyMoney kind cents x.amount } else x) } }
  | none =>
    if s.rm.balances.length < Config.balancesMax then
      { s with rm := { s.rm with balances := s.rm.balances ++ [⟨b, applyMoney kind cents 0⟩] } }
    else s

/-- A FINE or PAYMENT record written, UNTRACKED where the BALANCE TABLE has no place for it, with the balance (R90). -/
def writeMoney (e : Entry) (b : Code) (cents : Nat) (s : State) : State :=
  updateBalance e.kind b cents
    (writeRecord { e with borrower := some b, amount := some cents, flags := { e.flags with untracked := !s.tracks b } } s)

/-- A borrower's entry taken afresh from the records that remain after a confirmation, or dropped (R91). -/
def refold (b : Code) (s : State) : State :=
  if s.rm.journal.any (Record.isTrackedOf b) then
    { s with rm := { s.rm with balances := s.rm.balances.map (fun x =>
        if x.borrower = b then { x with amount := foldBalance b s.rm.journal } else x) } }
  else { s with rm := { s.rm with balances := s.rm.balances.filter (fun x => x.borrower != b) } }

/-! ### Blocks and the threshold test (R46, R49, R52, R92) -/

/-- The borrower's balance is at or above a nonzero threshold (R46). -/
def State.atThreshold (s : State) (b : Code) : Bool :=
  decide (0 < s.config.threshold) && decide (s.config.threshold ≤ s.balanceOf b)

/-- The borrower is listed, or refused for balance alone (R46, R114). -/
def State.isBlocked (s : State) (b : Code) : Bool := (s.blockOf b).isSome || s.atThreshold b

/-- The reason a blocked borrower is reported with: the entry's, or LOCAL-FINES for balance alone (R46, 6.4). -/
def State.blockReason (s : State) (b : Code) : BlockReason :=
  match s.blockOf b with
  | some x => x.reason
  | none => .localFines

/-- What a threshold test does (TABLE 5-5). -/
inductive TestAct where
  | nothing
  | request
  | lift
  deriving DecidableEq, Repr

/-- The outcome of the threshold test of a borrower, as the state stands (R92). -/
def State.thresholdTest (s : State) (b : Code) : TestAct :=
  match s.blockOf b with
  | none => if s.atThreshold b then .request else .nothing
  | some x => if x.origin = .localLogic ∧ s.atThreshold b = false then .lift else .nothing

/-- The records that the room test counts for a threshold test: one if it will act (R35, R93). -/
def State.testRecords (s : State) (b : Code) : Nat := if s.thresholdTest b = .nothing then 0 else 1

/-- A local fine block (R49): the entry with its BLOCK-SET/LOCAL, or BLOCK-LIST-FULL to each STAFF port. -/
def requestBlock (st : Option Station) (p : Port) (b : Code) (s : State) : State :=
  if s.rm.blocks.length < Config.blocksMax then
    writeRecord { kind := .blockSet, station := st, port := p, flags := { localLogic := true }, borrower := some b,
                  amount := some (BlockReason.localFines.code.toNat) }
      (putBlock ⟨b, .localFines, .localLogic, s.clock.day⟩ s)
  else postStaff { kind := .blockListFull, code := some b } s

/-- A local block lifted, with its BLOCK-CLEAR/LOCAL (R52). -/
def liftBlock (st : Option Station) (p : Port) (b : Code) (s : State) : State :=
  writeRecord { kind := .blockClear, station := st, port := p, flags := { localLogic := true }, borrower := some b }
    (removeBlockOf b s)

/-- The threshold test run for a borrower (R92), its record with the station and port of the step. -/
def runTest (st : Option Station) (p : Port) (b : Code) (s : State) : State :=
  match s.thresholdTest b with
  | .nothing => s
  | .request => requestBlock st p b s
  | .lift => liftBlock st p b s

end Sys2Proof.Machine
end

