-- ==== Sys2Proof/Machine/Slips.lean ====
section
/-! DEFINITION. Slips: their composition (R122, R127) and their printed text (Section 7.2). -/

namespace Sys2Proof.Machine

/-! ### Composition -/

/-- The sum of the fines of some item lines (TABLE 6-1). -/
def finesTotal (lines : List ItemLine) : Nat := (lines.map ItemLine.fine).sum

/-- The kind of the slip of a transaction mode (R122). -/
def slipKindOf : TxMode → SlipKind
  | .checkout => .loan
  | .returning => .returned
  | .renewing => .renewal

/-- The slip that a slot composes at its close (R122, R127). -/
def composeSlip (st : Station) (s : State) : Slip :=
  let sl := s.slot st
  let kind := slipKindOf (sl.mode.getD .checkout)
  { number := none, kind := kind, copyOf := none, copyMark := false, station := some st,
    port := (s.owner st).getD .A, header := s.config.header, day := s.clock.day, minute := s.clock.minute,
    borrower := if kind = .returned then none else sl.patron, items := sl.draft, text := [],
    finesTotal := finesTotal sl.draft,
    balance := if kind = .returned then none else sl.patron.map s.balanceOf }

/-- A NOTE slip (R127, R134). -/
def noteSlip (p : Port) (lines : List (List Byte)) (s : State) : Slip :=
  { number := none, kind := .note, copyOf := none, copyMark := false, station := none, port := p,
    header := s.config.header, day := s.clock.day, minute := s.clock.minute, borrower := none, items := [],
    text := lines, finesTotal := 0, balance := none }

/-- A COPY of a last slip (R127, R135). -/
def copySlip (p : Port) (original : Slip) : Slip :=
  { original with number := none, kind := .copy, copyOf := some (original.kind, original.number.getD 0),
                  copyMark := false, port := p }

/-! ### Printed text (TABLE 7-3, TABLE 7-4, R129) -/

/-- A number in decimal digits without leading zeros, of at most `fuel` digits. -/
def decimalDigits : Nat → Nat → List Byte
  | 0, _ => []
  | fuel + 1, n => (if n < 10 then [] else decimalDigits fuel (n / 10)) ++ [digitChar (n % 10)]

/-- A number in decimal digits without leading zeros. -/
def decimal (n : Nat) : List Byte := decimalDigits 20 n

/-- An amount in currency units with two decimals (7.2). -/
def amountText (cents : Nat) : List Byte := decimal (cents / 100) ++ ascii ['.'] ++ padded 2 (cents % 100)

/-- A line of exactly 32 characters, spaces filling out a short one (7.2). -/
def line32 (l : List Byte) : List Byte := (l ++ List.replicate 32 0x20#8).take 32

/-- The word of a slip kind on the kind line. -/
def kindWord : SlipKind → List Byte
  | .loan => ascii ['L', 'O', 'A', 'N']
  | .returned => ascii ['R', 'E', 'T', 'U', 'R', 'N']
  | .renewal => ascii ['R', 'E', 'N', 'E', 'W']
  | .note => ascii ['N', 'O', 'T', 'E']
  | .copy => ascii ['C', 'O', 'P', 'Y']

/-- The kind and number of the slip that this one prints: for a COPY those of its original (R129). -/
def Slip.original (sl : Slip) : SlipKind × Nat :=
  match sl.kind, sl.copyOf with
  | .copy, some kn => kn
  | k, _ => (k, sl.number.getD 0)

/-- The kind line (R129). -/
def Slip.kindLine (sl : Slip) : List Byte :=
  if sl.kind = .copy || sl.copyMark then
    ascii ['C', 'O', 'P', 'Y', ' '] ++ kindWord sl.original.1 ++ ascii [' '] ++ padded 4 sl.original.2
  else kindWord sl.kind

/-- Seven spaces, before the second line of an item entry. -/
def indent : List Byte := List.replicate 7 0x20#8

/-- The printed lines of an item entry (TABLE 7-4). -/
def ItemLine.printed (l : ItemLine) : List (List Byte) :=
  let due := match l.due with
    | some (day, minute) => dueText day minute
    | none => []
  match l.outcome with
  | .out => [itemTail l.item ++ ascii [' '] ++ due]
  | .returned =>
    (itemTail l.item ++ ascii [' ', 'I', 'N']
        ++ (if 0 < l.fine then ascii [' ', 'F', 'I', 'N', 'E', ' '] ++ amountText l.fine else []))
      :: (match l.heldFor with
          | some b => [indent ++ ascii ['H', 'O', 'L', 'D', ' '] ++ borrowerTail b]
          | none => [])
  | .renewed =>
    (itemTail l.item ++ ascii [' ', 'R', 'E', 'N', 'E', 'W', 'E', 'D', ' '] ++ due)
      :: (if 0 < l.fine then [indent ++ ascii ['F', 'I', 'N', 'E', ' '] ++ amountText l.fine] else [])

/-- "SLIP nnnn", the slip's own number. -/
def Slip.numberText (sl : Slip) : List Byte := ascii ['S', 'L', 'I', 'P', ' '] ++ padded 4 (sl.number.getD 0)

/-- "FINES f". -/
def Slip.finesText (sl : Slip) : List Byte := ascii ['F', 'I', 'N', 'E', 'S', ' '] ++ amountText sl.finesTotal

/-- The first footer line of a transaction slip (TABLE 7-3). The item count k stands in decimal digits without leading zeros or padding:
7.2 gives no printed form for it, and this one is the model's choice (log entry 36). -/
def Slip.footer (sl : Slip) : List Byte :=
  sl.numberText ++ ascii [' ', ' ', 'S', 'T', 'A', 'T', 'I', 'O', 'N', ' ']
    ++ (match sl.station with | some st => decimal (stationNumber st) | none => [])
    ++ ascii [' ', ' ', 'I', 'T', 'E', 'M', 'S', ' '] ++ decimal sl.items.length

/-- The printed lines of a slip, in the order of TABLE 7-3, each of 32 characters. -/
def Slip.printed (sl : Slip) : List (List Byte) :=
  let top := [sl.header, dateText sl.day ++ ascii [' '] ++ timeText sl.minute, sl.kindLine]
  let body := match sl.original.1 with
    | .note => sl.text.map (List.map printable) ++ [sl.numberText]
    | .returned => sl.items.flatMap ItemLine.printed ++ [sl.footer, sl.finesText]
    | _ =>
      [ascii ['B', 'O', 'R', 'R', 'O', 'W', 'E', 'R', ' ']
          ++ (match sl.borrower with | some b => borrowerTail b | none => [])]
        ++ sl.items.flatMap ItemLine.printed
        ++ [sl.footer, sl.finesText ++ ascii [' ', ' ', 'B', 'A', 'L', 'A', 'N', 'C', 'E', ' ']
              ++ amountText (sl.balance.getD 0)]
  (top ++ body).map line32

/-- The line end (Section 11). -/
def lineEnd : Byte := 0x0A#8

/-- The bytes sent for printed line `i` of a slip: its 32 characters and the line end. -/
def Slip.lineBytes (sl : Slip) (i : Nat) : List Byte := sl.printed.getD i [] ++ [lineEnd]

end Sys2Proof.Machine
end

