-- ==== Sys2Proof/Machine/Printer.lean ====
section
/-! DEFINITION. The SLIP QUEUE and the printer (Sections 7.3 to 7.5): a slip entering the queue, and the printer's own events
but for LINE_PRINTED, which stands with the slots it admits (Slots.lean). -/

namespace Sys2Proof.Machine

/-- A change of the SLIP UNIT. -/
def onSlip (f : SlipUnit → SlipUnit) (s : State) : State := { s with slip := f s.slip }

/-- The wake request (R138, Section 11): the feed is owed and the printer enters WAKING. -/
def wake (u : SlipUnit) : SlipUnit := { u with printer := .waking, feedOwed := true, output := [0x0E#8] }

/-- The slip at the head is sent from its first line, after the feed if it is owed (R139, R140). -/
def sendHead (u : SlipUnit) : SlipUnit :=
  if u.feedOwed then { u with printer := .printing, feedLeft := 2, linesDone := 0, lineSent := false, output := [lineEnd] }
  else
    { u with printer := .printing, feedLeft := 0, linesDone := 0, lineSent := false,
             output := match u.queue with | sl :: _ => sl.lineBytes 0 | [] => [] }

/-- The line under way is sent whole, with its line end (R139); what is left of it is to be printed. -/
def finishLine (u : SlipUnit) : SlipUnit := if u.printer = .printing then { u with lineSent := true } else u

/-- A line of the head slip's own has been sent in this PRINTING (R139, R140): the feed is over, and a line of the slip is printed or
the one under way is sent with its line end. -/
def SlipUnit.ownLineSent (u : SlipUnit) : Bool := u.feedLeft == 0 && (decide (0 < u.linesDone) || u.lineSent)

/-- The number of the slip at the head, if the queue is not empty. -/
def SlipUnit.headNumber (u : SlipUnit) : Option Nat := u.queue.head?.bind Slip.number

/-- PRINTER-FAULT with the number of the head slip, to every port (R140). -/
def printerFault (s : State) : State :=
  postAll { kind := .printerFault, value := s.slip.headNumber.map .number } s

/-- PRINTING begins with the slip at the head; with PAPER-OUT high the printer enters NO-PAPER instead (R139, R140). -/
def beginPrinting (u : SlipUnit) : SlipUnit :=
  if u.paperOut then { u with printer := .noPaper, feedLeft := 0, linesDone := 0, lineSent := false } else sendHead u

/-- An event in which printing may begin, made whole: where it took the printer to NO-PAPER, PRINTER-FAULT is posted (R140). It follows
what the transaction slots posted, so that the events of one block stand together (R181); that the SLIP UNIT's comes after them is the
model's choice (log entry 7). -/
def faultLast (f : State → State) (s : State) : State :=
  let t := f s
  if s.slip.printer ≠ .noPaper ∧ t.slip.printer = .noPaper then printerFault t else t

/-- The number after a slip number, 9,999 being followed by 1 (R128). -/
def nextSlipNumber (n : Nat) : Nat := if n < 9999 then n + 1 else 1

/-- The slip as it stands in the queue: numbered, with the header of this moment, the copy mark clear (R127, R128). -/
def numbered (s : State) (sl : Slip) : Slip :=
  { sl with number := some s.nextSlip, header := s.config.header, copyMark := false }

/-- The last slips with a LOAN, RETURN or RENEW slip of a station taken in (R133). -/
def takeLast (sl : Slip) (v : PerStation (Option Slip)) : PerStation (Option Slip) :=
  match sl.kind, sl.station with
  | .note, _ => v
  | .copy, _ => v
  | _, some st => v.set st (some sl)
  | _, none => v

/-- A slip enters the newest end of the SLIP QUEUE (R128, R130, R133), with what the printer does about it: ASLEEP it wakes
when the queue was empty (R138), READY it prints at once and its idle timer stops (R141). A PRINTER-FAULT is left to the event in
which the slip comes (faultLast). -/
def queueSlip (sl : Slip) (s : State) : State :=
  let q := numbered s sl
  let s' := { s with
    nextSlip := nextSlipNumber s.nextSlip,
    slip := { s.slip with queue := s.slip.queue ++ [q], lastSlip := takeLast q s.slip.lastSlip } }
  match s.slip.printer with
  | .asleep => if s.slip.queue.isEmpty then onSlip wake s' else s'
  | .ready => onSlip (fun u => beginPrinting { u with idleTimer := none }) s'
  | _ => s'

/-- The SLIP QUEUE has a place (R130). -/
def State.slipRoom (s : State) : Bool := s.slip.queue.length < Config.slipQueueMax

/-- The printer enters READY and the idle timer starts (R141). -/
def enterReady (s : State) : State :=
  onSlip (fun u => { u with printer := .ready, feedLeft := 0, linesDone := 0, lineSent := false,
                            idleTimer := if s.config.idleTime = 0 then none else some s.config.idleTime }) s

/-! ### Printer events -/

/-- WAKE_COMPLETE (R138): 150 ms of WAKING have passed. -/
def onWakeComplete (s : State) : State :=
  if s.running ∧ s.slip.printer = .waking then faultLast (onSlip beginPrinting) s else s

/-- PAPER_OUT (R140): the input rises; in PRINTING the sending stops, the head slip is marked when a line of its own had
been sent, printed or not, and the printer enters NO-PAPER. -/
def onPaperOut (s : State) : State :=
  let s' := onSlip (fun u => { u with paperOut := true }) s
  if s.running ∧ s.slip.printer = .printing then
    printerFault (onSlip (fun u =>
      { u with
        printer := .noPaper, feedLeft := 0, linesDone := 0, lineSent := false,
        queue := match u.queue with
          | sl :: rest => { sl with copyMark := sl.copyMark || s.slip.ownLineSent } :: rest
          | [] => [] }) s')
  else s'

/-- PAPER_RESTORED (R140): the input falls; in NO-PAPER PRINTER-READY goes to every port and the head slip is sent again. -/
def onPaperRestored (s : State) : State :=
  let s' := onSlip (fun u => { u with paperOut := false }) s
  if s.running ∧ s.slip.printer = .noPaper then onSlip sendHead (postAll { kind := .printerReady } s') else s'

/-- IDLE_TIMER_EXPIRY (R141): the sleep request is sent and the printer enters SETTLING. -/
def onIdleTimerExpiry (s : State) : State :=
  if s.running ∧ s.slip.printer = .ready ∧ s.slip.idleTimer.isSome then
    onSlip (fun u => { u with printer := .settling, idleTimer := none, output := [0x0F#8] }) s
  else s

/-- SETTLE_COMPLETE (R141): 250 ms of SETTLING have passed; the printer is ASLEEP, or wakes again if slips wait. -/
def onSettleComplete (s : State) : State :=
  if s.running ∧ s.slip.printer = .settling then
    if s.slip.queue.isEmpty then onSlip (fun u => { u with printer := .asleep }) s else onSlip wake s
  else s

def execWakeComplete (s : State) : Host.Outcome State Fault Refusal := .next (onWakeComplete s)
def execPaperOut (s : State) : Host.Outcome State Fault Refusal := .next (onPaperOut s)
def execPaperRestored (s : State) : Host.Outcome State Fault Refusal := .next (onPaperRestored s)
def execIdleTimerExpiry (s : State) : Host.Outcome State Fault Refusal := .next (onIdleTimerExpiry s)
def execSettleComplete (s : State) : Host.Outcome State Fault Refusal := .next (onSettleComplete s)

end Sys2Proof.Machine
end

