-- ==== Sys2Proof/Machine/Slots.lean ====
section
/-! DEFINITION. The transaction slots (Sections 6.1 to 6.7): the shared operations that open, close, cancel and reopen a slot
and take its patron, the inactivity timer, and LINE_PRINTED, by which a printed slip admits a waiting slot. -/

namespace Sys2Proof.Machine

/-- A slot is open in every state except IDLE and CLOSING (6.1). -/
def SlotState.isOpen : SlotState → Bool
  | .idle => false
  | .closing => false
  | _ => true

/-- The inactivity timer as a restart leaves it: stopped at a timeout of 0 (R106). -/
def State.timerStart (s : State) (st : Station) : Option Nat :=
  if (s.stationConfig st).timeout = 0 then none else some (s.stationConfig st).timeout

/-- The slot's inactivity timer restarts (R106). -/
def restartTimer (st : Station) (s : State) : State := s.putSlot st { s.slot st with timer := s.timerStart st }

/-- An event that carries the station alone, or with a code. -/
def stationEvent (k : EventKind) (st : Station) (c : Option Code := none) : Event := { kind := k, station := some st, code := c }

/-- TRANSACTION-CLOSED with the slip number, or absent (R103). -/
def closedEvent (st : Station) (number : Option Nat) : Event :=
  { stationEvent .transactionClosed st with value := number.map .number }

/-- ITEM-REFUSED with the code taken and the reason, and no tone (R108, R114). -/
def reportRefusal (st : Station) (c : Code) (r : Refuse) (s : State) : State :=
  postOwner st { stationEvent .itemRefused st (some c) with reason := some (.refuse r) } s

/-- A step refused: ITEM-REFUSED and the REFUSE tone (R108). -/
def refuseStep (st : Station) (c : Code) (r : Refuse) (s : State) : State := tone st .refuse (reportRefusal st c r s)

/-- PATRON-BLOCKED with the block reason, and the ATTENTION tone (R110, R114). -/
def reportBlocked (st : Station) (b : Code) (s : State) : State :=
  tone st .attention
    (postOwner st { stationEvent .patronBlocked st (some b) with reason := some (.block (s.blockReason b)) } s)

/-- PATRON-OK with the patron's balance, and the ACCEPT tone (R110, R112). -/
def reportPatronOk (st : Station) (b : Code) (s : State) : State :=
  tone st .accept
    (postOwner st { stationEvent .patronOk st (some b) with value := some (.amount (s.balanceOf b)) } s)

/-- The patron step for a borrower code in AWAIT-PATRON, the code already taken (R110). -/
def patronStepOf (st : Station) (c : Code) (s : State) : State :=
  if systemOf c ≠ s.config.system then refuseStep st c .foreign s
  else if (s.config.borrowerClasses.get (borrowerClassOf c)).loanLimit = 0 then refuseStep st c .classBarred s
  else
    let taken (x : SlotState) : State :=
      s.putSlot st { s.slot st with state := x, patron := some c, patronClass := some (borrowerClassOf c) }
    if s.isBlocked c then reportBlocked st c (taken .patronBlocked) else reportPatronOk st c (taken .serving)

/-- A slot that has reached IDLE reopens for the reopen-pending code `c` (R111): AWAIT-PATRON in the mode and with the slip
choice it had, then the patron step, which waits while PFAIL is high. -/
def reopenSlot (st : Station) (mode : Option TxMode) (slipWanted : Bool) (c : Code) (s : State) : State :=
  let s' := s.putSlot st { Slot.fresh with
    state := .awaitPatron, mode := mode, slipWanted := slipWanted, timer := s.timerStart st,
    reopen := if s.pfail then some c else none }
  if s.pfail then s' else patronStepOf st c s'

/-- The slot enters IDLE with TRANSACTION-CLOSED, and then reopens with its reopen-pending code or reports the codes that
wait (R103, R104, R111, R12). -/
def leaveSlot (st : Station) (number : Option Nat) (reopen : Option Code) (s : State) : State :=
  let s' := postOwner st (closedEvent st number) (s.putSlot st Slot.fresh)
  match reopen with
  | none => reportWaiting st s'
  | some c => reopenSlot st (s.slot st).mode (s.slot st).slipWanted c s'

/-- The slot has a slip to print at its close (R103). -/
def State.wantsSlip (s : State) (st : Station) : Bool := (s.slot st).slipWanted && !(s.slot st).draft.isEmpty

/-- An open slot closes (R103, R131), with the reopen-pending code that a second card leaves. -/
def closeSlot (st : Station) (reopen : Option Code) (s : State) : State :=
  if s.wantsSlip st then
    if s.slipRoom then leaveSlot st (some s.nextSlip) reopen (queueSlip (composeSlip st s) s)
    else
      onSlip (fun u => { u with waiting := u.waiting ++ [(st, composeSlip st s)] })
        (s.putSlot st { s.slot st with state := .closing, timer := none, reopen := reopen })
  else leaveSlot st none reopen s

/-- An open slot without lines is cancelled (R105). -/
def cancelSlot (st : Station) (s : State) : State := leaveSlot st none none s

/-- An open slot ends as CANCEL ends it with 0 lines and as CLOSE ends it with lines (R106, R124, R125); any other slot is
left as it is. -/
def endSlot (st : Station) (s : State) : State :=
  if (s.slot st).state.isOpen then
    if (s.slot st).draft.isEmpty then cancelSlot st s else closeSlot st none s
  else s

/-- The slot's reopen-pending code cleared (R124, R125). -/
def clearReopen (st : Station) (s : State) : State := s.putSlot st { s.slot st with reopen := none }

/-- The open slots among some stations end in ascending order, the reopen-pending codes of all of them cleared (R124, R125), with a
PRINTER-FAULT last (log entry 7). -/
def endSlots (sts : List Station) : State → State :=
  faultLast fun s => sts.foldl (fun t st => endSlot st t) (sts.foldl (fun t st => clearReopen st t) s)

/-- INACTIVITY_TIMEOUT (R106): TIMED-OUT, the ATTENTION tone, and the transaction cancelled or closed, with a PRINTER-FAULT last (log
entry 7). -/
def onInactivityTimeout (st : Station) (s : State) : State :=
  if s.running ∧ (s.slot st).state.isOpen ∧ (s.slot st).timer.isSome then
    faultLast (endSlot st) (tone st .attention (postOwner st (stationEvent .timedOut st) s))
  else s

/-! ### The printed slip (R132, R139) -/

/-- The slip at the head has been printed: SLIP-PRINTED, the head of the closing-wait list admitted, and the next slip sent
or READY entered (R132, R139). -/
def slipPrinted (sl : Slip) (s : State) : State :=
  let s1 := post sl.port { kind := .slipPrinted, station := sl.station, value := sl.number.map .number }
    (onSlip (fun u => { u with queue := u.queue.tail }) s)
  let s2 := match s1.slip.waiting with
    | [] => s1
    | (st, w) :: rest =>
      leaveSlot st (some s1.nextSlip) (s1.slot st).reopen (queueSlip w (onSlip (fun u => { u with waiting := rest }) s1))
  if s2.slip.queue.isEmpty then enterReady s2 else onSlip sendHead s2

/-- LINE_PRINTED (R139): PRINTER-BUSY has fallen after a line end; the line counts as printed. -/
def onLinePrinted (s : State) : State :=
  match s.slip.queue with
  | [] => s
  | sl :: _ =>
    if s.running ∧ s.slip.printer = .printing then
      if 2 ≤ s.slip.feedLeft then onSlip (fun u => { u with feedLeft := u.feedLeft - 1, lineSent := false, output := [lineEnd] }) s
      else if s.slip.feedLeft = 1 then onSlip (fun u => sendHead { u with feedOwed := false }) s
      else if s.slip.linesDone + 1 < sl.printed.length then
        onSlip (fun u => { u with linesDone := u.linesDone + 1, lineSent := false, output := sl.lineBytes (u.linesDone + 1) }) s
      else slipPrinted sl s
    else s

def execInactivityTimeout (st : Station) (s : State) : Host.Outcome State Fault Refusal := .next (onInactivityTimeout st s)
def execLinePrinted (s : State) : Host.Outcome State Fault Refusal := .next (onLinePrinted s)

end Sys2Proof.Machine
end

