-- ==== Sys2Proof/Machine/Stations.lean ====
section
/-! DEFINITION. The wand stations' own events (Section 1): acquisition and decoding of a symbol, the repeat filter, presence
sampling and the end of a tone. -/

namespace Sys2Proof.Machine

/-- The decoder of a station set. -/
def setDecoder (st : Station) (d : Decoder) (s : State) : State := s.putStation st { s.station st with decoder := d }

/-- The acquisition is abandoned with the FAULT tone, and the decoder enters WAIT-QUIET (R3). -/
def abandonAcquisition (st : Station) (s : State) : State := tone st .fault (setDecoder st .waitQuiet s)

/-- A code offered to the scan slots by the decoder: it joins them, or is dropped, with SCAN-LOST on the first drop (R11). -/
def offerScan (st : Station) (c : Code) (s : State) : State :=
  if (s.station st).scans.length < Config.scanSlotsMax then joinScans st c s
  else if (s.station st).overflow then s
  else postOwner st (stationEvent .scanLost st (some c)) (s.putStation st { s.station st with overflow := true })

/-- The code equals the last accepted code, and the time since that acceptance is less than the repeat window (R10). -/
def isRepeat (w : WandStation) (window : Nat) (c : Code) (ms : Nat) : Bool :=
  match w.lastAccepted with
  | some (c', t) => c' == c && decide (ms - t < window)
  | none => false

/-- A decoded code meets the repeat filter (R10). -/
def filterCode (st : Station) (c : Code) (ms : Nat) (s : State) : State :=
  if (s.owner st).isNone then s
  else if isRepeat (s.station st) (s.stationConfig st).repeatWindow c ms then s
  else offerScan st c (s.putStation st { s.station st with lastAccepted := some (c, ms) })

/-- ACQUISITION_START (R4): a bar begins in QUIET. -/
def onAcquisitionStart (st : Station) (s : State) : State :=
  if s.running ∧ (s.station st).decoder = .quiet then setDecoder st (.acquiring [] 0) s else s

/-- ELEMENT_MEASURED (R3): an edge ends a bar or a space while ACQUIRING. The first 91 valid elements are kept and further
ones counted; one out of range abandons the acquisition; a space of 12,500 ticks is no element but the quiet of R4. -/
def onElementMeasured (st : Station) (ticks : Nat) (s : State) : State :=
  match (s.station st).decoder with
  | .acquiring kept count =>
    if s.running then
      if 10 ≤ ticks ∧ ticks ≤ 10000 then
        setDecoder st (.acquiring (if count < 91 then kept ++ [ticks] else kept) (count + 1)) s
      else if count % 2 = 1 ∧ 12500 ≤ ticks then s
      else abandonAcquisition st s
    else s
  | _ => s

/-- ACQUISITION_ABANDON (R3): an element is out of range. -/
def onAcquisitionAbandon (st : Station) (s : State) : State :=
  match (s.station st).decoder with
  | .acquiring _ _ => if s.running then abandonAcquisition st s else s
  | _ => s

/-- QUIET_REACHED (R3): a space of 12,500 ticks in WAIT-QUIET. -/
def onQuietReached (st : Station) (s : State) : State :=
  if s.running ∧ (s.station st).decoder = .waitQuiet then setDecoder st .quiet s else s

/-- DECODE_SYMBOL (R4, R9, R10): quiet after a bar ends the symbol, which is decoded and handed on, or fails with FAULT. -/
def onDecodeSymbol (st : Station) (ms : Nat) (s : State) : State :=
  match (s.station st).decoder with
  | .acquiring kept count =>
    if s.running ∧ count % 2 = 1 then
      match decodeElements kept count with
      | some c => filterCode st c ms (setDecoder st .quiet s)
      | none => tone st .fault (setDecoder st .quiet s)
    else s
  | _ => s

/-- A change of recorded presence (R15, R16). -/
def changePresence (st : Station) (present : Bool) (s : State) : State :=
  let d := if present then
      if (s.station st).decoder = .disabled ∧ s.mode = .day then .quiet else (s.station st).decoder
    else .disabled
  postOwnerOrStaff st { stationEvent .stationChange st with reason := some (.presence present) }
    (s.putStation st { s.station st with present := present, decoder := d })

/-- The presence sample of one station (R15). -/
def sampleStation (level : Bool) (st : Station) (s : State) : State :=
  let w := s.station st
  let s' := s.putStation st { w with prevSample := some level }
  if w.present != level && w.prevSample == some level then changePresence st level s' else s'

/-- PRESENCE_SAMPLE (R15): the sample of every station. R15 gives no order for the events of several stations whose presence changes
in one sample; ascending station order is the model's choice (log entry 33). -/
def onPresenceSample (levels : PerStation Bool) (s : State) : State :=
  if s.running then allStations.foldl (fun t st => sampleStation (levels.get st) st t) s else s

/-- PATTERN_END (R17): a pattern has run its full length. -/
def onPatternEnd (st : Station) (s : State) : State :=
  if s.running then s.putStation st { s.station st with indicator := none } else s

def execAcquisitionStart (st : Station) (s : State) : Host.Outcome State Fault Refusal := .next (onAcquisitionStart st s)
def execElementMeasured (st : Station) (ticks : Nat) (s : State) : Host.Outcome State Fault Refusal :=
  .next (onElementMeasured st ticks s)
def execAcquisitionAbandon (st : Station) (s : State) : Host.Outcome State Fault Refusal := .next (onAcquisitionAbandon st s)
def execQuietReached (st : Station) (s : State) : Host.Outcome State Fault Refusal := .next (onQuietReached st s)
def execDecodeSymbol (st : Station) (ms : Nat) (s : State) : Host.Outcome State Fault Refusal := .next (onDecodeSymbol st ms s)
def execPresenceSample (levels : PerStation Bool) (s : State) : Host.Outcome State Fault Refusal :=
  .next (onPresenceSample levels s)
def execPatternEnd (st : Station) (s : State) : Host.Outcome State Fault Refusal := .next (onPatternEnd st s)

end Sys2Proof.Machine
end

