-- ==== Sys2Proof/Machine/Modes.lean ====
section
/-! DEFINITION. The window and the operating modes (R162, Section 10.1): the judgement of the window and the change of mode. -/

namespace Sys2Proof.Machine

/-- A minute lies in the window from `a` up to, not including, `b`, wrapping past midnight (R162). -/
def inWindow (a b m : Nat) : Bool :=
  if a < b then decide (a ≤ m) && decide (m < b)
  else if b < a then decide (a ≤ m) || decide (m < b)
  else false

/-- The window judged from the clock and the settings as they stand: not open while the clock is UNSET (R162, R188). -/
def State.windowJudged (s : State) : Bool :=
  !s.clock.unset && inWindow s.config.windowStart s.config.windowEnd s.clock.minute

/-- The clock holds: it stands at day 65,535, minute 1439 (R61). -/
def Clock.holds (c : Clock) : Bool := decide (Config.lastDay ≤ c.day) && decide (1439 ≤ c.minute)

/-- The minute advances, with the second count back to 0 (R61). -/
def Clock.advance (c : Clock) : Clock :=
  if c.minute < 1439 then { c with minute := c.minute + 1, second := 0 }
  else { c with day := c.day + 1, minute := 0, second := 0 }

/-- The new minute about to be handed on is a window end of the link (R162). -/
def State.windowEndsNext (s : State) : Bool :=
  s.link.windowOpen && !s.clock.holds && !({ s with clock := s.clock.advance } : State).windowJudged

/-- The mode that the schedule gives for a judgement (R188). -/
def scheduledMode (isOpen : Bool) : Mode := if isOpen then .night else .day

/-- The decoder of a station as a change of mode leaves it (R22). -/
def modeDecoder (m : Mode) (w : WandStation) : Decoder :=
  match m with
  | .night => .disabled
  | .day => if w.present then .waitQuiet else .disabled

/-- The decoder of a station meets a change of mode (R5, R22). -/
def modeStation (m : Mode) (s : State) (st : Station) : State := setDecoder st (modeDecoder m (s.station st)) s

/-- A change of mode (R189): MODE-CHANGE to every port, the decoders (R22), and at NIGHT the open transactions (R124). -/
def changeMode (m : Mode) (s : State) : State :=
  if s.mode = m then s
  else
    let s' := allStations.foldl (modeStation m)
      (postAll { kind := .modeChange, reason := some (.mode m) } { s with mode := m })
    match m with
    | .night => endSlots allStations s'
    | .day => s'

/-- Mode control judges its window open flag from an instant handed to it; a window boundary clears the hold and gives the
schedule's mode (R188). -/
def judgeMode (s : State) : State :=
  let o := s.windowJudged
  if o = s.modeWindow then s else changeMode (scheduledMode o) { s with modeWindow := o, modeHold := false }

end Sys2Proof.Machine
end

