-- ==== Sys2Proof/Machine/Frames.lean ====
section
/-! DEFINITION. Frames of the upload line (Sections 8.1 and 8.2): their bytes, the receiver's check and the receive filter. -/

namespace Sys2Proof.Machine

/-- Frame kinds (TABLE 8-3). -/
def kindData : Byte := 0x01#8
def kindAck : Byte := 0x02#8
def kindBusy : Byte := 0x03#8
def kindPoll : Byte := 0x04#8
def kindUpdate : Byte := 0x05#8
def kindEnd : Byte := 0x06#8

/-- A frame's bytes: start, header, payload and CRC (TABLE 8-2, R146). -/
def frameBytes (dest source kind : Byte) (seq : Nat) (payload : List Byte) : List Byte :=
  let covered := [dest, source, kind] ++ be16 seq ++ [byte payload.length] ++ payload
  [0xC3#8, 0x3C#8] ++ covered ++ be16 (crc16 covered).toNat

/-- A frame that the desk sends: its own address as the source, 0 as the destination (R145). -/
def State.deskFrame (s : State) (kind : Byte) (seq : Nat) (payload : List Byte) : List Byte :=
  frameBytes 0x00#8 (byte s.config.address) kind seq payload

/-- The two jam characters (R151). -/
def jamBytes : List Byte := [0x55#8, 0x55#8]

/-- A good frame, as the receiver passes it to the filter (R147). -/
structure RxFrame where
  dest : Byte
  source : Byte
  kind : Byte
  seq : Nat
  payload : List Byte
  deriving DecidableEq, Repr

/-- The good frame in a run of characters from the start bytes to the last CRC byte (R147): none when the start bytes are
not there, the length is above 240 or not that of the run, or the CRC differs. -/
def goodFrame (f : List Byte) : Option RxFrame :=
  let len := (byteAt f 7).toNat
  let covered := slice f 2 (6 + len)
  if byteAt f 0 = 0xC3#8 ∧ byteAt f 1 = 0x3C#8 ∧ len ≤ 240 ∧ f.length = 10 + len
      ∧ numAt f (8 + len) = (crc16 covered).toNat then
    some { dest := byteAt f 2, source := byteAt f 3, kind := byteAt f 4, seq := numAt f 5, payload := slice f 8 len }
  else none

/-- The receiver takes frames: the link is neither sending a frame nor its jam characters (R147, R149, TABLE 8-4). -/
def State.hears (s : State) : Bool :=
  s.running && s.link.jam.isNone &&
    (match s.link.run with
     | .sendData => false
     | .sendPoll => false
     | .sendReply => false
     | _ => true)

/-- A change of the link. -/
def onLink (f : Link → Link) (s : State) : State := { s with link := f s.link }

/-- Line activity: a gap count below 8 character times goes back to 0 (R150). -/
def Link.activity (l : Link) : Link :=
  match l.seek with
  | .gap n => if n < 8 then { l with seek := .gap 0 } else l
  | _ => l

/-- A good frame heard, accepted or ignored, was line activity while it passed (R148, R150). -/
def heardActivity (f : List Byte) (s : State) : State :=
  if s.hears && (goodFrame f).isSome then onLink Link.activity s else s

/-- The frame comes from the central office to this desk's own address (R148). -/
def State.fromCentral (s : State) (r : RxFrame) : Bool := r.source == 0x00#8 && r.dest == byte s.config.address

/-- An ACK accepted in AWAIT-ACK: its count (R148, TABLE 8-4). -/
def State.acceptedAck (s : State) (f : List Byte) : Option Nat :=
  match goodFrame f, s.link.frame with
  | some r, .data (some (seq, _)) =>
    if s.hears = true ∧ s.link.run = .awaitAck ∧ s.fromCentral r = true ∧ r.kind = kindAck ∧ r.seq = seq
        ∧ r.payload.length = 1 ∧ (byteAt r.payload 0).toNat ≤ 8 then
      some (byteAt r.payload 0).toNat
    else none
  | _, _ => none

/-- A BUSY accepted in AWAIT-ACK (R148, TABLE 8-4). -/
def State.acceptsBusy (s : State) (f : List Byte) : Bool :=
  match goodFrame f, s.link.frame with
  | some r, .data (some (seq, _)) =>
    decide (s.hears = true ∧ s.link.run = .awaitAck ∧ s.fromCentral r = true ∧ r.kind = kindBusy ∧ r.seq = seq
        ∧ r.payload.length = 0)
  | _, _ => false

/-- An UPDATE's payload fits its kind (R148). -/
def updateFits (r : RxFrame) : Bool := r.kind == kindUpdate && r.payload.length % 18 == 0 && decide (r.payload.length ≤ 234)

/-- A run UPDATE accepted in AWAIT-UPDATE (R148, R158). -/
def State.acceptedUpdate (s : State) (f : List Byte) : Option RxFrame :=
  (goodFrame f).filter (fun r => s.hears && s.link.run == .awaitUpdate && s.fromCentral r && updateFits r)

/-- A broadcast UPDATE accepted (R148, R149). -/
def State.acceptedBroadcast (s : State) (f : List Byte) : Option RxFrame :=
  (goodFrame f).filter (fun r => s.hears && r.source == 0x00#8 && r.dest == 0xFF#8 && updateFits r)

/-- An END accepted in AWAIT-UPDATE: the central day and minute (R148, R160). -/
def State.acceptedEnd (s : State) (f : List Byte) : Option (Nat × Nat) :=
  match goodFrame f with
  | some r =>
    if s.hears = true ∧ s.link.run = .awaitUpdate ∧ s.fromCentral r = true ∧ r.kind = kindEnd ∧ r.payload.length = 4 then
      some (numAt r.payload 0, numAt r.payload 2)
    else none
  | none => none

end Sys2Proof.Machine
end

