-- ==== Sys2Proof/Machine/Updates.lean ====
section
/-! DEFINITION. Central updates: the reading of an update entry (R196) and its effect on its table (R29, R47, R50, R54, R58,
R72), and the entries of an UPDATE frame applied in order (R149). -/

namespace Sys2Proof.Machine

/-- An update entry of 18 bytes: its kind, key code, second code and parameter (TABLE 11-4). -/
structure UpdateEntry where
  kind : Byte
  key : Code
  second : Option Code
  parameter : Nat
  deriving DecidableEq, Repr

/-- A code of seven FFH bytes is absent. -/
def codeIfPresent (c : Code) : Option Code := if c = BitVec.allOnes 56 then none else some c

/-- The entry in 18 bytes. -/
def readEntryBytes (bs : List Byte) : UpdateEntry :=
  { kind := byteAt bs 0, key := codeAt bs 1, second := codeIfPresent (codeAt bs 8), parameter := number (slice bs 15 3) }

/-- The entries of an UPDATE payload, 18 bytes each, over at most `n` entries. -/
def splitEntries : Nat → List Byte → List UpdateEntry
  | 0, _ => []
  | n + 1, bs => if bs.isEmpty then [] else readEntryBytes (bs.take 18) :: splitEntries n (bs.drop 18)

/-- The entries of an UPDATE frame. -/
def entriesOf (payload : List Byte) : List UpdateEntry := splitEntries 13 payload

/-- BLOCK-ADD (R47, R54): a reason code that is none of the six is stored as OTHER. -/
def applyBlockAdd (e : UpdateEntry) (s : State) : Option State :=
  if borrowerValid e.key = false then none
  else
    let reason := (blockReasonOfByte (byte e.parameter)).getD .other
    match s.blockOf e.key with
    | some b => some (putBlock { b with reason := reason, origin := .central } s)
    | none =>
      if s.rm.blocks.length < Config.blocksMax then some (putBlock ⟨e.key, reason, .central, s.clock.day⟩ s) else none

/-- BLOCK-REMOVE (R50, R54). -/
def applyBlockRemove (e : UpdateEntry) (s : State) : Option State :=
  if borrowerValid e.key then some (removeBlockOf e.key s) else none

/-- FLAG-SET (R54, R58). -/
def applyFlagSet (e : UpdateEntry) (s : State) : Option State :=
  if itemValid e.key = false then none
  else
    match itemFlagOfByte (byte e.parameter) with
    | none => none
    | some flag =>
      let reserver := if flag = .reserved then e.second else none
      if flag = .reserved ∧ (e.second.map borrowerValid).getD false = false then none
      else if (s.flagOf e.key).isNone ∧ Config.flagsMax ≤ s.rm.flags.length then none
      else some (putFlag ⟨e.key, flag, reserver, s.clock.day⟩ s)

/-- FLAG-CLEAR (R54, R58). -/
def applyFlagClear (e : UpdateEntry) (s : State) : Option State :=
  if itemValid e.key then some (removeFlagOf e.key s) else none

/-- LOAN-CLEAR (R29). -/
def applyLoanClear (e : UpdateEntry) (s : State) : Option State :=
  match s.loanOf e.key with
  | some l => some (if some l.borrower = e.second then removeLoan e.key s else s)
  | none => some s

/-- The day that an entry's parameter names (R196). -/
def UpdateEntry.day (e : UpdateEntry) : Nat := e.parameter % 65536

/-- A day is more than 120 days before the clock day (R62). -/
def State.isStale (s : State) (day : Nat) : Bool := decide (120 < s.clock.day - day)

/-- CLOSURE-ADD (R72). -/
def applyClosureAdd (e : UpdateEntry) (s : State) : Option State :=
  if s.rm.closures.contains e.day || s.isStale e.day then some s
  else if s.rm.closures.length < Config.closuresMax then some (insertClosure e.day s) else none

/-- CLOSURE-REMOVE (R72). -/
def applyClosureRemove (e : UpdateEntry) (s : State) : Option State := some (dropClosure e.day s)

/-- One update entry applied, or none when it cannot be applied (R149, R196). -/
def applyEntry (e : UpdateEntry) (s : State) : Option State :=
  if e.kind = 0x01#8 then applyBlockAdd e s
  else if e.kind = 0x02#8 then applyBlockRemove e s
  else if e.kind = 0x03#8 then applyFlagSet e s
  else if e.kind = 0x04#8 then applyFlagClear e s
  else if e.kind = 0x05#8 then applyLoanClear e s
  else if e.kind = 0x06#8 then applyClosureAdd e s
  else if e.kind = 0x07#8 then applyClosureRemove e s
  else none

/-- Entries applied in order up to the first that cannot be: the state and the number applied (R149). -/
def applyEntries : List UpdateEntry → State → State × Nat
  | [], s => (s, 0)
  | e :: es, s =>
    match applyEntry e s with
    | none => (s, 0)
    | some s' => ((applyEntries es s').1, (applyEntries es s').2 + 1)

/-- UPDATE-REFUSED with the number of entries discarded, to each STAFF port, when some were (R149, R158). -/
def reportDiscarded (n : Nat) (s : State) : State :=
  if n = 0 then s else postStaff { kind := .updateRefused, value := some (.number n) } s

/-- The entries of a frame applied, with UPDATE-REFUSED for those discarded: the state and the number applied. -/
def applyFrame (r : RxFrame) (s : State) : State × Nat :=
  let es := entriesOf r.payload
  let (s', n) := applyEntries es s
  (reportDiscarded (es.length - n) s', n)

/-- BROADCAST_UPDATE (R149): an accepted broadcast that is not a repeat is applied without reply, unless PFAIL is high. -/
def onBroadcastUpdate (f : List Byte) (s : State) : State :=
  let s' := heardActivity f s
  match s.acceptedBroadcast f with
  | some r =>
    if s.pfail ∨ s.rm.lastBroadcast = some r.seq then s'
    else
      let t := (applyFrame r s').1
      { t with rm := { t.rm with lastBroadcast := some r.seq } }
  | none => s'

def execBroadcastUpdate (f : List Byte) (s : State) : Host.Outcome State Fault Refusal := .next (onBroadcastUpdate f s)

end Sys2Proof.Machine
end

