-- ==== Sys2Proof/Machine/Runs.lean ====
section
/-! DEFINITION. Upload runs (Sections 8.4 to 8.6): how a run begins and ends, contention, the sending of its frames, their
answers and timeouts, and the link's judgement of the window. END_FRAME stands with the clock (ClockUnit.lean). -/

namespace Sys2Proof.Machine

/-- A run is in progress: the states CONTEND to SEND-REPLY (R164). -/
def RunState.inRun : RunState → Bool
  | .idle => false
  | .armed => false
  | _ => true

/-- The frame that the journal calls for: DATA while it holds a PENDING record, POLL otherwise (R153, R155). -/
def State.frameWanted (s : State) : FrameInFlight := if s.pendingCount = 0 then .poll else .data none

/-- A run begins (R153). -/
def beginRun (s : State) : State :=
  onLink (fun l => { l with
    run := .contend, retry := none, attempts := 0, timeouts := 0, confirmed := 0, applied := 0,
    frame := s.frameWanted, seek := .gap 0 }) s

/-- A run ends DONE (R161). -/
def runDone (s : State) : State :=
  onLink (fun l => { l with
      run := .idle, outcome := .done, frame := .none, seek := .off, replyTimer := false, reply := none })
    (postStaff { kind := .uploadDone, value := some (.counts s.link.confirmed s.link.applied) } s)

/-- The run state that a failed run leaves (R161): ARMED while the window is open, but IDLE for STOPPED. -/
def stateAfterFailure (r : FailReason) (windowOpen : Bool) : RunState :=
  if windowOpen ∧ r ≠ .stopped then .armed else .idle

/-- A run ends FAILED (R161). -/
def runFailed (r : FailReason) (s : State) : State :=
  let next := stateAfterFailure r s.link.windowOpen
  onLink (fun l => { l with
      run := next, outcome := .failed r, frame := .none, seek := .off, replyTimer := false, reply := none,
      retry := if next = .armed then some s.config.retryInterval else none })
    (postStaff { kind := .uploadFailed, reason := some (.fail r) } (unsend s))

/-- The link judges its window open flag (R162): a window start begins a run from IDLE, a window end takes ARMED to IDLE. -/
def judgeLink (s : State) : State :=
  let o := s.windowJudged
  let s' := onLink (fun l => { l with windowOpen := o }) s
  if o = s.link.windowOpen then s
  else if o then (if s.link.run = .idle then beginRun s' else s')
  else if s.link.run = .armed then onLink (fun l => { l with run := .idle, retry := none }) s' else s'

/-- The retry timer counts a new minute down in ARMED (R163). -/
def countRetry (s : State) : State :=
  if s.link.run = .armed then onLink (fun l => { l with retry := l.retry.map (· - 1) }) s else s

/-- RETRY_EXPIRY (R163): the retry timer has run out in ARMED, and a run begins. The row may also come in the timer's last
minute when the new minute about to be handed on is a window end: the order "expiry first" of R163 (log entry 13). -/
def onRetryExpiry (s : State) : State :=
  if s.running ∧ s.link.run = .armed
      ∧ (s.link.retry = some 0 ∨ (s.link.retry = some 1 ∧ s.windowEndsNext = true)) then beginRun s
  else s

/-! ### Contention (R150 to R152) -/

/-- The link seeks a gap: it is in CONTEND, neither jamming nor in a backoff. -/
def State.seeksGap (s : State) : Option Nat :=
  if s.running = true ∧ s.link.run = .contend ∧ s.link.jam = none then
    match s.link.seek with
    | .gap n => some n
    | _ => none
  else none

/-- LINE_ACTIVITY (R150): a start bit on the line sets a gap count below 8 back to 0. -/
def onLineActivity (s : State) : State :=
  match s.seeksGap with
  | some n => if n < 8 then onLink (fun l => { l with seek := .gap 0 }) s else s
  | none => s

/-- GAP_COMMITTED (R150): the gap count reaches 8 character times. -/
def onGapCommitted (s : State) : State :=
  match s.seeksGap with
  | some n => if n < 8 then onLink (fun l => { l with seek := .gap 8 }) s else s
  | none => s

/-- NO_LINE (R150): 30 s of seeking without committing. -/
def onNoLine (s : State) : State :=
  match s.seeksGap with
  | some n => if n < 8 then runFailed .noLine s else s
  | none => s

/-- The DATA frame formed (R154): the oldest records, up to eight, marked SENT, and the frame's characters. -/
def sendDataFrame (s : State) : State :=
  let n := min 8 s.rm.journal.length
  let s' := markSent n s
  let seq := (s'.rm.journal.head?.map Record.seq).getD 0
  onLink (fun l => { l with
    run := .sendData, frame := .data (some (seq, n)), seek := .off,
    sending := s.deskFrame kindData seq ((s'.rm.journal.take n).flatMap Record.bytes) }) s'

/-- GAP_WON (R150, R154, R157): the gap count reaches 12 character times and the frame in flight is sent. -/
def onGapWon (s : State) : State :=
  match s.seeksGap with
  | none => s
  | some _ =>
    match s.link.frame with
    | .data _ => sendDataFrame s
    | .poll => onLink (fun l => { l with run := .sendPoll, seek := .off, sending := s.deskFrame kindPoll 0 [] }) s
    | .none => s

/-- The frame in flight as a cut-off or unanswered sending leaves it: a DATA frame is formed afresh (R154). -/
def FrameInFlight.unformed : FrameInFlight → FrameInFlight
  | .data _ => .data Option.none
  | x => x

/-- COLLISION (R151): the frame is cut off, its records return to PENDING, the jam begins, and the attempt count increases;
at 12 the run fails, otherwise the link enters CONTEND. -/
def onCollision (s : State) : State :=
  if s.running ∧ (s.link.run = .sendData ∨ s.link.run = .sendPoll) then
    let s' := onLink (fun l => { l with attempts := l.attempts + 1, sending := jamBytes }) (unsend s)
    if 12 ≤ s.link.attempts + 1 then onLink (fun l => { l with jam := some .runOver }) (runFailed .collisions s')
    else onLink (fun l => { l with run := .contend, frame := l.frame.unformed, jam := some .backoff, seek := .off }) s'
  else s

/-- The backoff in slots: the lowest `k` bits of the random generator, `k` the lesser of the attempt count and 8 (R151). -/
def backoffSlots (random : Word16) (attempts : Nat) : Nat := random.toNat % 2 ^ min attempts 8

/-- JAM_END (R151, R159): the two jam characters have been sent; the link waits its backoff, or seeks at once where it is 0,
or returns to AWAIT-UPDATE after an abandoned reply. -/
def onJamEnd (s : State) : State :=
  if s.running then
    match s.link.jam with
    | none => s
    | some .backoff =>
      let r := backoffSlots s.link.random s.link.attempts
      onLink (fun l => { l with jam := none, sending := [], seek := if r = 0 then .gap 0 else .backoff r }) s
    | some .reply =>
      onLink (fun l => { l with jam := none, sending := [], run := .awaitUpdate, reply := none, replyTimer := true }) s
    | some .runOver => onLink (fun l => { l with jam := none, sending := [] }) s
  else s

/-- BACKOFF_END (R151): the link seeks a gap afresh. -/
def onBackoffEnd (s : State) : State :=
  match s.link.seek with
  | .backoff _ => if s.running ∧ s.link.run = .contend then onLink (fun l => { l with seek := .gap 0 }) s else s
  | _ => s

/-- One step of the random generator (R152). -/
def randomStep (g : Word16) : Word16 :=
  (g <<< 1) ||| (BitVec.ofBool (g.getLsbD 15 ^^ g.getLsbD 13 ^^ g.getLsbD 12 ^^ g.getLsbD 10)).setWidth 16

/-- RANDOM_GENERATOR_STEP (R152): once every character time. -/
def onRandomGeneratorStep (s : State) : State :=
  if s.running then onLink (fun l => { l with random := randomStep l.random }) s else s

/-- The seed at a start (R152). -/
def randomSeed (address minute : Nat) : Word16 :=
  if (address * 257 + minute) % 65536 = 0 then 0xACE1#16 else BitVec.ofNat 16 (address * 257 + minute)

/-! ### Frames sent and answered (R154 to R159) -/

/-- DATA_FRAME_SENT (R154). -/
def onDataFrameSent (s : State) : State :=
  if s.running ∧ s.link.run = .sendData then
    onLink (fun l => { l with run := .awaitAck, attempts := 0, replyTimer := true, sending := [] }) s
  else s

/-- POLL_SENT (R157). -/
def onPollSent (s : State) : State :=
  if s.running ∧ s.link.run = .sendPoll then
    onLink (fun l => { l with run := .awaitUpdate, attempts := 0, replyTimer := true, sending := [] }) s
  else s

/-- The borrowers with a FINE or PAYMENT among some records, in the order in which their first stands (R93). -/
def moneyBorrowers (l : List Record) : List Code :=
  (l.filterMap (fun r => if r.kind = .fine ∨ r.kind = .payment then r.borrower else none)).reverse.dedup.reverse

/-- A confirmation (R34, R91, R93): the oldest `m` records removed, the rest PENDING, the balances of the borrowers
concerned folded afresh and their threshold tests run, with no station and port A (TABLE 2-2), and the arming (R38). -/
def confirm (m : Nat) (s : State) : State :=
  let bs := moneyBorrowers (s.rm.journal.take m)
  let s1 := bs.foldl (fun t b => refold b t) (unsend (dropRecords m s))
  rearm (highWater (bs.foldl (fun t b => runTest none .A b t) s1))

/-- ACK_FRAME (R155): an accepted ACK with count `k` for a frame of `n` records confirms min(k, n). While PFAIL is high it is
not acted on (R37, R169). -/
def onAckFrame (f : List Byte) (s : State) : State :=
  let s0 := heardActivity f s
  match s.acceptedAck f, s.link.frame with
  | some k, .data (some (_, n)) =>
    if s.pfail then s0
    else
      let s1 := confirm (min k n) s0
      onLink (fun l => { l with
        run := .contend, replyTimer := false, timeouts := 0, confirmed := min 65535 (l.confirmed + min k n),
        frame := s1.frameWanted, seek := .gap 0 }) s1
  | _, _ => s0

/-- BUSY_FRAME (R155). -/
def onBusyFrame (f : List Byte) (s : State) : State :=
  let s0 := heardActivity f s
  if s.acceptsBusy f then runFailed .centralBusy s0 else s0

/-- REPLY_TIMEOUT (R156, R157): 3 s without the reply awaited; the third in a row fails the run. -/
def onReplyTimeout (s : State) : State :=
  if s.running ∧ s.link.replyTimer ∧ (s.link.run = .awaitAck ∨ s.link.run = .awaitUpdate) then
    let s' := onLink (fun l => { l with timeouts := l.timeouts + 1, replyTimer := false }) (unsend s)
    if 3 ≤ s.link.timeouts + 1 then runFailed .noReply s'
    else
      onLink (fun l => { l with
        run := .contend, frame := if s.link.run = .awaitAck then .data none else .poll, seek := .gap 0 }) s'
  else s

/-- The link enters SEND-REPLY for an UPDATE of frame number `seq` with a reply count (R158). -/
def prepareReply (seq count : Nat) (l : Link) : Link :=
  { l with run := .sendReply, replyTimer := false, timeouts := 0, reply := some ⟨seq, count, false⟩ }

/-- A run update applied for the first time, or recognised as a repeat (R158). -/
def runUpdate (r : RxFrame) (s : State) : State :=
  match s.rm.lastRun.filter (fun x => x.1 == r.seq) with
  | some (_, count) => onLink (prepareReply r.seq count) s
  | none =>
    let (t, count) := applyFrame r s
    onLink (fun l => prepareReply r.seq count { l with applied := min 65535 (l.applied + count) })
      { t with rm := { t.rm with lastRun := some (r.seq, count) } }

/-- UPDATE_FRAME (R158): a run UPDATE accepted in AWAIT-UPDATE. While PFAIL is high it is not acted on (R37, R169). -/
def onUpdateFrame (f : List Byte) (s : State) : State :=
  let s0 := heardActivity f s
  match s.acceptedUpdate f with
  | some r => if s.pfail then s0 else runUpdate r s0
  | none => s0

/-- REPLY_DELAY_END (R159): the ACK is sent without seeking a gap. -/
def onReplyDelayEnd (s : State) : State :=
  match s.link.reply with
  | some r =>
    if s.running ∧ s.link.run = .sendReply ∧ s.link.jam = none ∧ r.sending = false then
      onLink (fun l => { l with
        reply := some { r with sending := true }, sending := s.deskFrame kindAck r.seq [byte r.count] }) s
    else s
  | none => s

/-- The ACK of a reply is being sent. -/
def State.sendsReply (s : State) : Bool :=
  decide (s.running = true ∧ s.link.run = .sendReply ∧ s.link.jam = none) && (s.link.reply.map Reply.sending).getD false

/-- REPLY_SENT (R159). -/
def onReplySent (s : State) : State :=
  if s.sendsReply then
    onLink (fun l => { l with run := .awaitUpdate, reply := none, replyTimer := true, sending := [] }) s
  else s

/-- REPLY_COLLISION (R159): the reply is cut off and two jam characters are sent. -/
def onReplyCollision (s : State) : State :=
  if s.sendsReply then onLink (fun l => { l with jam := some .reply, sending := jamBytes }) s else s

/-- FRAME_ABANDONED (R147): a frame abandoned has no effect and is not reported; the receiver hunts again. -/
def onFrameAbandoned (_cause : AbandonCause) (s : State) : State := s

def execRetryExpiry (s : State) : Host.Outcome State Fault Refusal := .next (onRetryExpiry s)
def execGapWon (s : State) : Host.Outcome State Fault Refusal := .next (onGapWon s)
def execNoLine (s : State) : Host.Outcome State Fault Refusal := .next (onNoLine s)
def execCollision (s : State) : Host.Outcome State Fault Refusal := .next (onCollision s)
def execBackoffEnd (s : State) : Host.Outcome State Fault Refusal := .next (onBackoffEnd s)
def execDataFrameSent (s : State) : Host.Outcome State Fault Refusal := .next (onDataFrameSent s)
def execPollSent (s : State) : Host.Outcome State Fault Refusal := .next (onPollSent s)
def execAckFrame (f : List Byte) (s : State) : Host.Outcome State Fault Refusal := .next (onAckFrame f s)
def execBusyFrame (f : List Byte) (s : State) : Host.Outcome State Fault Refusal := .next (onBusyFrame f s)
def execReplyTimeout (s : State) : Host.Outcome State Fault Refusal := .next (onReplyTimeout s)
def execUpdateFrame (f : List Byte) (s : State) : Host.Outcome State Fault Refusal := .next (onUpdateFrame f s)
def execReplyDelayEnd (s : State) : Host.Outcome State Fault Refusal := .next (onReplyDelayEnd s)
def execReplySent (s : State) : Host.Outcome State Fault Refusal := .next (onReplySent s)
def execReplyCollision (s : State) : Host.Outcome State Fault Refusal := .next (onReplyCollision s)
def execFrameAbandoned (cause : AbandonCause) (s : State) : Host.Outcome State Fault Refusal :=
  .next (onFrameAbandoned cause s)
def execLineActivity (s : State) : Host.Outcome State Fault Refusal := .next (onLineActivity s)
def execGapCommitted (s : State) : Host.Outcome State Fault Refusal := .next (onGapCommitted s)
def execJamEnd (s : State) : Host.Outcome State Fault Refusal := .next (onJamEnd s)
def execRandomGeneratorStep (s : State) : Host.Outcome State Fault Refusal := .next (onRandomGeneratorStep s)

end Sys2Proof.Machine
end

