-- ==== Sys2Proof/Machine/Steps.lean ====
section
/-! DEFINITION. The steps of a transaction (Sections 6.4 to 6.10): the handling of the code that a slot takes by the slot's
state and the code's type (TABLE 6-4), each step whole. -/

namespace Sys2Proof.Machine

/-- The code that a slot may take: the oldest waiting code of an open slot, while PFAIL is low (R102, R37). -/
def State.codeToTake (s : State) (st : Station) : Option Code :=
  if s.running && !s.pfail && (s.slot st).state.isOpen then (s.station st).scans.head? else none

/-- The code leaves its scan slot, and the inactivity timer restarts (R102). -/
def takeCode (st : Station) (s : State) : State := restartTimer st (dropOldestScan st s)

/-- The port of the records and events of a station's step: its owner (TABLE 2-2). -/
def State.stepPort (s : State) (st : Station) : Port := (s.owner st).getD .A

/-- An item line added to the draft (R122). -/
def addLine (st : Station) (l : ItemLine) (s : State) : State :=
  s.putSlot st { s.slot st with draft := (s.slot st).draft ++ [l] }

/-- The block check of an item step fails: BLOCKED without the REFUSE tone, then PATRON-BLOCKED (R114). -/
def blockedStep (st : Station) (c : Code) (patron : Code) (s : State) : State :=
  let s' := reportRefusal st c .blocked s
  reportBlocked st patron (s'.putSlot st { s'.slot st with state := .patronBlocked })

/-- What the checks of a checkout or renew step find. -/
inductive Verdict (α : Type) where
  | refuse (r : Refuse)
  | blocked
  | pass (plan : α)
  deriving DecidableEq, Repr

/-- What a checkout that passes its checks will do (R113): the flag to clear, the loan to return implicitly, the due instant. -/
structure CheckoutPlan where
  clear : Option ItemFlag
  implicit : Option Loan
  dueDay : Nat
  dueMinute : Option Nat
  deriving DecidableEq, Repr

/-- The item flag check of a checkout (R113, check 3): a refusal, or the flag marked to be cleared. -/
def flagCheck (f : Option FlagEntry) (patron : Code) : Except Refuse (Option ItemFlag) :=
  match f with
  | none => .ok none
  | some e =>
    match e.flag with
    | .withdrawn => .error .notLoanable
    | .reference => .error .notLoanable
    | .missing => .ok (some .missing)
    | .reserved => if e.reserver = some patron then .ok (some .reserved) else .error .itemHeld

/-- The loan table check of a checkout (R113, check 5): a refusal, or the loan marked for implicit return. -/
def loanCheck (l : Option Loan) (patron : Code) : Except Refuse (Option Loan) :=
  match l with
  | none => .ok none
  | some e => if e.borrower = patron then .error .alreadyYours else .ok (some e)

/-- The records of a checkout (R113, check 9). -/
def CheckoutPlan.records (p : CheckoutPlan) : Nat :=
  (if p.clear.isSome then 1 else 0) + (if p.implicit.isSome then 1 else 0) + 1

/-- The loan limit check passes (R113, check 6). -/
def State.underLimit (s : State) (patron : Code) (bc : Fin 8) : Bool :=
  (s.config.borrowerClasses.get bc).loanLimit == 255
    || decide (s.loanCount patron < (s.config.borrowerClasses.get bc).loanLimit)

/-- The checks of a checkout step, in order (R113). -/
def checkoutChecks (st : Station) (item patron : Code) (s : State) : Verdict CheckoutPlan :=
  let bc := (s.slot st).patronClass.getD (borrowerClassOf patron)
  if systemOf item ≠ s.config.system then .refuse .foreign
  else if (s.slot st).overridden = false ∧ s.isBlocked patron = true then .blocked
  else
    match flagCheck (s.flagOf item) patron with
    | .error r => .refuse r
    | .ok clear =>
      if periodOf s.config (itemClassOf item) bc = 0 then .refuse .notLoanable
      else
        match loanCheck (s.loanOf item) patron with
        | .error r => .refuse r
        | .ok implicit =>
          if s.underLimit patron bc = false then .refuse .limit
          else if Config.linesMax ≤ (s.slot st).draft.length then .refuse .transactionFull
          else
            match s.dueAt s.clock.day s.clock.minute (itemClassOf item) bc with
            | .notLoanable => .refuse .notLoanable
            | .calendarEnd _ => .refuse .calendarEnd
            | .due day minute _ =>
              let plan : CheckoutPlan := ⟨clear, implicit, day, minute⟩
              if s.hasRoom plan.records then .pass plan else .refuse .journalFull

/-- The flags HOUR and OVERRIDE of a CHECKOUT or RENEW record (R114, TABLE 2-4). -/
def loanFlags (st : Station) (patron : Code) (dueMinute : Option Nat) (s : State) : RecordFlags :=
  { hour := dueMinute.isSome, overridden := (s.slot st).overridden && s.isBlocked patron }

/-- The loan of a checkout: the CHECKOUT record, and the LOAN TABLE entry unless the table is full (R26, R116). -/
def lend (st : Station) (item patron : Code) (plan : CheckoutPlan) (flags : RecordFlags) (s : State) : State :=
  let full := decide (Config.loansMax ≤ s.rm.loans.length)
  let seq := s.rm.nextSeq
  let s' := writeRecord
    { kind := .checkout, station := some st, port := s.stepPort st, flags := { flags with notTabled := full },
      borrower := some patron, item := some item, dueDay := some plan.dueDay, dueMinute := plan.dueMinute } s
  if full then s'
  else
    insertLoan
      { item := item, borrower := patron, itemClass := itemClassOf item, borrowerClass := borrowerClassOf patron,
        outDay := s.clock.day, outMinute := s.clock.minute, dueDay := plan.dueDay, dueMinute := plan.dueMinute,
        renewals := 0, seq := seq } s'

/-- The flag of a checkout cleared, with its FLAG-CLEAR (R59, R116). -/
def clearFlagFor (st : Station) (item : Code) (clear : Option ItemFlag) (s : State) : State :=
  match clear with
  | none => s
  | some _ =>
    writeRecord { kind := .flagClear, station := some st, port := s.stepPort st, item := some item } (removeFlagOf item s)

/-- The implicit return of a checkout, with its RETURN/IMPLICIT (R28, R115). -/
def returnImplicitly (st : Station) (item : Code) (implicit : Option Loan) (s : State) : State :=
  match implicit with
  | none => s
  | some l =>
    writeRecord { kind := .returned, station := some st, port := s.stepPort st, flags := { implicit := true },
                  borrower := some l.borrower, item := some item } (removeLoan item s)

/-- A checkout step that passes every check (R116). -/
def checkoutSucceeds (st : Station) (item patron : Code) (plan : CheckoutPlan) (s : State) : State :=
  let flags := loanFlags st patron plan.dueMinute s
  let s1 := lend st item patron plan flags (returnImplicitly st item plan.implicit (clearFlagFor st item plan.clear s))
  let s2 := addLine st ⟨item, .out, some (plan.dueDay, plan.dueMinute), 0, none⟩ s1
  let s3 := if plan.clear = some .missing then postOwner st (stationEvent .itemFound st (some item)) s2 else s2
  highWater (tone st .accept
    (postOwner st { stationEvent .itemOut st (some item) with value := some (.due plan.dueDay plan.dueMinute) } s3))

/-- A checkout step for an item code already taken (R113). -/
def checkoutStepOf (st : Station) (item patron : Code) (s : State) : State :=
  match checkoutChecks st item patron s with
  | .refuse r => refuseStep st item r s
  | .blocked => blockedStep st item patron s
  | .pass plan => checkoutSucceeds st item patron plan s

/-- The RETURN record of a return step, with the LOAN TABLE removal of a tabled one (R118). -/
def writeReturn (st : Station) (item : Code) (loan : Option Loan) (s : State) : State :=
  let e : Entry := { kind := .returned, station := some st, port := s.stepPort st, item := some item }
  match loan with
  | some l => writeRecord { e with borrower := some l.borrower } (removeLoan item s)
  | none =>
    if systemOf item ≠ s.config.system then writeRecord { e with flags := { foreign := true } } s
    else writeRecord { e with flags := { unknown := true } } s

/-- The FINE record with the borrower's balance; a fine of 0 writes nothing (R85, R90). -/
def chargeMoney (st : Station) (l : Loan) (fine : Nat) (s : State) : State :=
  if 0 < fine then
    writeMoney { kind := .fine, station := some st, port := s.stepPort st, item := some l.item } l.borrower fine s
  else s

/-- A fine charged: the FINE record, the balance and the threshold test (R93, R118, R120). -/
def chargeFine (st : Station) (l : Loan) (fine : Nat) (s : State) : State :=
  if 0 < fine then runTest (some st) (s.stepPort st) l.borrower (chargeMoney st l fine s) else s

/-- The records of a fine with its threshold test, as the room test counts them (R35, R117). -/
def State.fineRecords (s : State) (st : Station) (l : Loan) (fine : Nat) : Nat :=
  if 0 < fine then 1 + (chargeMoney st l fine s).testRecords l.borrower else 0

/-- A return step that passes its checks (R118). -/
def returnSucceeds (st : Station) (item : Code) (s : State) : State :=
  let loan := s.loanOf item
  let fine := (loan.map s.fineOf).getD 0
  let s1 := writeReturn st item loan s
  let s2 := match loan with
    | some l => chargeFine st l fine s1
    | none => s1
  let held := (s.flagOf item).bind (fun f => if f.flag = .reserved then f.reserver else none)
  let s3 := addLine st ⟨item, .returned, none, fine, held⟩ s2
  let s4 := match held with
    | some b => postOwner st (stationEvent .holdShelf st (some b)) s3
    | none => s3
  highWater (tone st .accept (postOwner st { stationEvent .itemIn st (some item) with value := some (.amount fine) } s4))

/-- The records of a return step (R117, check 2). -/
def State.returnRecords (s : State) (st : Station) (item : Code) : Nat :=
  match s.loanOf item with
  | none => 1
  | some l => 1 + s.fineRecords st l (s.fineOf l)

/-- A return step for an item code already taken (R117). -/
def returnStepOf (st : Station) (item : Code) (s : State) : State :=
  if Config.linesMax ≤ (s.slot st).draft.length then refuseStep st item .transactionFull s
  else if s.hasRoom (s.returnRecords st item) then returnSucceeds st item s
  else refuseStep st item .journalFull s

/-- What a renewal that passes its checks will do (R119). -/
structure RenewPlan where
  loan : Loan
  dueDay : Nat
  dueMinute : Option Nat
  deriving DecidableEq, Repr

/-- The item is RESERVED, whoever the reservation names (R119, check 4). -/
def State.isReserved (s : State) (item : Code) : Bool :=
  match s.flagOf item with
  | some f => f.flag = .reserved
  | none => false

/-- The instant from which a renewal's due is computed: the step's, or the loan's checkout instant when that is later (R27). -/
def State.renewalInstant (s : State) (l : Loan) : Nat × Nat :=
  if s.clock.day * 1440 + s.clock.minute < l.outDay * 1440 + l.outMinute then (l.outDay, l.outMinute)
  else (s.clock.day, s.clock.minute)

/-- The checks of a renew step, in order (R119). -/
def renewChecks (st : Station) (item patron : Code) (s : State) : Verdict RenewPlan :=
  if systemOf item ≠ s.config.system then .refuse .foreign
  else if (s.slot st).overridden = false ∧ s.isBlocked patron = true then .blocked
  else
    match s.loanOf item with
    | none => .refuse .notOnLoan
    | some l =>
      if l.borrower ≠ patron then .refuse .notYours
      else if s.isReserved item then .refuse .itemHeld
      else if (s.config.itemClasses.get l.itemClass).maxRenewals ≤ l.renewals then .refuse .renewalLimit
      else if Config.linesMax ≤ (s.slot st).draft.length then .refuse .transactionFull
      else
        match s.dueAt (s.renewalInstant l).1 (s.renewalInstant l).2 l.itemClass l.borrowerClass with
        | .notLoanable => .refuse .notLoanable
        | .calendarEnd _ => .refuse .calendarEnd
        | .due day minute _ =>
          if s.hasRoom (s.fineRecords st l (s.fineOf l) + 1) then .pass ⟨l, day, minute⟩ else .refuse .journalFull

/-- A renew step that passes every check (R120). -/
def renewSucceeds (st : Station) (item patron : Code) (plan : RenewPlan) (s : State) : State :=
  let flags := loanFlags st patron plan.dueMinute s
  let fine := s.fineOf plan.loan
  let s1 := chargeFine st plan.loan fine s
  let s2 := writeRecord
    { kind := .renewed, station := some st, port := s.stepPort st, flags := flags, borrower := some patron,
      item := some item, dueDay := some plan.dueDay, dueMinute := plan.dueMinute } s1
  let s3 := replaceLoan
    { plan.loan with dueDay := plan.dueDay, dueMinute := plan.dueMinute, renewals := plan.loan.renewals + 1,
                     seq := s1.rm.nextSeq } s2
  let s4 := addLine st ⟨item, .renewed, some (plan.dueDay, plan.dueMinute), fine, none⟩ s3
  highWater (tone st .accept
    (postOwner st { stationEvent .itemRenewed st (some item) with value := some (.due plan.dueDay plan.dueMinute) } s4))

/-- A renew step for an item code already taken (R119). -/
def renewStepOf (st : Station) (item patron : Code) (s : State) : State :=
  match renewChecks st item patron s with
  | .refuse r => refuseStep st item r s
  | .blocked => blockedStep st item patron s
  | .pass plan => renewSucceeds st item patron plan s

/-! ### The rows of TABLE 6-4 -/

/-- PATRON_STEP (R110): a borrower code taken in AWAIT-PATRON. -/
def onPatronStep (st : Station) (s : State) : State :=
  match s.codeToTake st with
  | some c =>
    if (s.slot st).state = .awaitPatron ∧ isBorrower c = true then patronStepOf st c (takeCode st s) else s
  | none => s

/-- CHECKOUT_STEP (R113): an item code taken in SERVING in CHECKOUT mode. -/
def onCheckoutStep (st : Station) (s : State) : State :=
  match s.codeToTake st, (s.slot st).patron with
  | some c, some patron =>
    if (s.slot st).state = .serving ∧ (s.slot st).mode = some .checkout ∧ isItem c = true then
      checkoutStepOf st c patron (takeCode st s)
    else s
  | _, _ => s

/-- RETURN_STEP (R117): an item code taken in RETURNING. -/
def onReturnStep (st : Station) (s : State) : State :=
  match s.codeToTake st with
  | some c => if (s.slot st).state = .returning ∧ isItem c = true then returnStepOf st c (takeCode st s) else s
  | none => s

/-- RENEW_STEP (R119): an item code taken in SERVING in RENEW mode. -/
def onRenewStep (st : Station) (s : State) : State :=
  match s.codeToTake st, (s.slot st).patron with
  | some c, some patron =>
    if (s.slot st).state = .serving ∧ (s.slot st).mode = some .renewing ∧ isItem c = true then
      renewStepOf st c patron (takeCode st s)
    else s
  | _, _ => s

/-- SECOND_CARD (R111): a borrower code other than the patron's, taken in SERVING, with a PRINTER-FAULT last (log entry 7). -/
def onSecondCard (st : Station) (s : State) : State :=
  match s.codeToTake st with
  | some c =>
    if (s.slot st).state = .serving ∧ isBorrower c = true ∧ (s.slot st).patron ≠ some c then
      faultLast (closeSlot st (some c)) (takeCode st s)
    else s
  | none => s

/-- IGNORED_CODE (R109): the patron's own code, taken in SERVING. -/
def onIgnoredCode (st : Station) (s : State) : State :=
  match s.codeToTake st with
  | some c => if (s.slot st).state = .serving ∧ (s.slot st).patron = some c then takeCode st s else s
  | none => s

/-- The refusal that TABLE 6-4 gives a code before any table is consulted, if it gives one (R109). -/
def wrongCode (x : SlotState) (c : Code) : Option Refuse :=
  match x with
  | .awaitPatron => if isItem c then some .needPatron else none
  | .patronBlocked => some .wrongType
  | .returning => if isBorrower c then some .wrongType else none
  | _ => none

/-- WRONG_CODE_REFUSAL (R109): a code of a type that the slot's state does not take. -/
def onWrongCode (st : Station) (s : State) : State :=
  match s.codeToTake st with
  | some c =>
    match wrongCode (s.slot st).state c with
    | some r => refuseStep st c r (takeCode st s)
    | none => s
  | none => s

def execPatronStep (st : Station) (s : State) : Host.Outcome State Fault Refusal := .next (onPatronStep st s)
def execCheckoutStep (st : Station) (s : State) : Host.Outcome State Fault Refusal := .next (onCheckoutStep st s)
def execReturnStep (st : Station) (s : State) : Host.Outcome State Fault Refusal := .next (onReturnStep st s)
def execRenewStep (st : Station) (s : State) : Host.Outcome State Fault Refusal := .next (onRenewStep st s)
def execSecondCard (st : Station) (s : State) : Host.Outcome State Fault Refusal := .next (onSecondCard st s)
def execIgnoredCode (st : Station) (s : State) : Host.Outcome State Fault Refusal := .next (onIgnoredCode st s)
def execWrongCodeRefusal (st : Station) (s : State) : Host.Outcome State Fault Refusal := .next (onWrongCode st s)

end Sys2Proof.Machine
end

