-- ==== Sys2Proof/Machine/ClockUnit.lean ====
section
/-! DEFINITION. The clock (Section 4.1): the new minute, the purge of the closure list, and the instants handed to mode control
and to the link; END_FRAME, which sets the clock; and PFAIL. -/

namespace Sys2Proof.Machine

/-- A listed day stays while the clock day less it is at most 120 (R62). -/
def keptByPurge (clockDay day : Nat) : Bool := decide (clockDay - day ≤ 120)

/-- The closure list purged against the clock day as it stands (R62). -/
def purge (s : State) : State :=
  { s with rm := { s.rm with closures := s.rm.closures.filter (keptByPurge s.clock.day) } }

/-- The purge that a new day calls for; while PFAIL is high it waits (R62, R37). -/
def callPurge (s : State) : State := if s.pfail then { s with purgeWaits := true } else purge s

/-- An instant handed to mode control and to the link (R67). -/
def handOn (s : State) : State := judgeLink (judgeMode s)

/-- NEW_MINUTE (R61, R62, R67, R163). While the part is stopped the clock advances alone (R191). The row advances the minute whatever
the second count, and sets it to 0: the model's choice, since a part comes to a new minute only past second 59 (log entry 34). -/
def onNewMinute (s : State) : State :=
  if s.clock.holds then s
  else
    let s1 := { s with clock := s.clock.advance }
    if s.running then
      let s2 := if s.clock.minute < 1439 then s1 else callPurge s1
      handOn (countRetry s2)
    else s1

/-- The clock set to an instant by SET CLOCK or by an END frame: UNSET is cleared, a new day calls the purge, and the instant is
handed on (R62, R64, R66, R67). -/
def setClockTo (day minute : Nat) (s : State) : State :=
  let s1 := { s with clock := ⟨day, minute, 0, false⟩ }
  handOn (if day = s.clock.day then s1 else callPurge s1)

/-- Two instants differ by more than one minute (R66). -/
def farApart (d m d' m' : Nat) : Bool :=
  decide (d * 1440 + m + 1 < d' * 1440 + m') || decide (d' * 1440 + m' + 1 < d * 1440 + m)

/-- The central time compared with the clock (R66). -/
def takeCentralTime (day minute : Nat) (s : State) : State :=
  if 1439 < minute then s
  else if s.clock.unset || farApart s.clock.day s.clock.minute day minute then setClockTo day minute s
  else s

/-- END_FRAME (R160): the central time is handed to the clock and the run is DONE. -/
def onEndFrame (f : List Byte) (s : State) : State :=
  let s0 := heardActivity f s
  match s.acceptedEnd f with
  | some (day, minute) => runDone (takeCentralTime day minute s0)
  | none => s0

/-- PFAIL_RISE (R37). -/
def onPfailRise (s : State) : State := { s with pfail := true }

/-- A reopen-pending code that waited for PFAIL in AWAIT-PATRON is taken as the patron step (R111). -/
def takePendingReopen (st : Station) (s : State) : State :=
  match (s.slot st).state, (s.slot st).reopen with
  | .awaitPatron, some c => patronStepOf st c (restartTimer st (clearReopen st s))
  | _, _ => s

/-- PFAIL_FALL (R37, R62, R111): a waiting purge is made and the reopen-pending codes that wait are taken. The codes in the
scan slots follow as steps of their own. -/
def onPfailFall (s : State) : State :=
  let s1 := { s with pfail := false }
  if s.running then
    let s2 := if s1.purgeWaits then purge { s1 with purgeWaits := false } else s1
    allStations.foldl (fun t st => takePendingReopen st t) s2
  else s1

def execNewMinute (s : State) : Host.Outcome State Fault Refusal := .next (onNewMinute s)
def execEndFrame (f : List Byte) (s : State) : Host.Outcome State Fault Refusal := .next (onEndFrame f s)
def execPfailRise (s : State) : Host.Outcome State Fault Refusal := .next (onPfailRise s)
def execPfailFall (s : State) : Host.Outcome State Fault Refusal := .next (onPfailFall s)

end Sys2Proof.Machine
end

