-- ==== Sys2Proof/Machine/Protocol.lean ====
section
/-! DEFINITION. The phases of a terminal port (Section 9.2): the accesses of the data byte, and how a command in EXECUTING
meets its rule and leaves its result. -/

namespace Sys2Proof.Machine

/-! ### Answers -/

/-- What the EXECUTING phase gives (R174): the completion code, the result bytes after it, and the state it leaves. -/
structure Answer where
  completion : Completion
  bytes : List Byte
  after : State
  deriving DecidableEq

/-- A refused command, which changes nothing and whose result is the completion code alone (R174, R175). -/
def refuse (c : Completion) (s : State) : Answer := ⟨c, [], s⟩

/-- A command completed with OK. -/
def done (bytes : List Byte) (s : State) : Answer := ⟨.ok, bytes, s⟩

/-- The rule of a command: the port that gave it, its parameter bytes, and the state in which it is taken. -/
abbrev Command := Port → List Byte → State → Answer

/-- The result placed in the result buffer; the port enters RESULT (R174, R175). -/
def deliver (p : Port) (r : Answer) : State :=
  r.after.putPort p { r.after.port p with phase := .result, result := r.completion.code :: r.bytes }

/-- The code of OVERRIDE BLOCK, whose permission check does not come first (R100, R180). -/
def overrideCode : Byte := 0x23#8

/-- A STAFF-only command given at a KIOSK port, refused before every check of its own rule (R180). -/
def State.forbids (s : State) (code : Byte) (p : Port) : Bool :=
  staffOnly code && code != overrideCode && (s.port p).role == .kiosk

/-- A command answered: the permission check of R180, then the command's own rule. -/
def answerOf (code : Byte) (cmd : Command) (p : Port) (params : List Byte) (s : State) : Answer :=
  if s.forbids code p then refuse .notPermitted s else cmd p params s

/-- The parameters of the command that the port executes, when that command has the code given. -/
def State.commandAt (s : State) (p : Port) (code : Byte) : Option (List Byte) :=
  if s.running = true ∧ (s.port p).phase = .executing ∧ (s.port p).command.head? = some code then
    some (s.port p).command.tail
  else none

/-- The one event of a command's EXECUTING phase (R174); a port that executes no command of this code is left as it is
(log entry 2). -/
def runCommand (code : Byte) (cmd : Command) (p : Port) (s : State) : State :=
  match s.commandAt p code with
  | some params => deliver p (answerOf code cmd p params s)
  | none => s

/-! ### Checks that many commands share -/

/-- A station number above 3 is refused with BAD-PARAMETER. -/
def withStation (b : Byte) (s : State) (k : Station → Answer) : Answer :=
  match stationOfByte b with
  | some st => k st
  | none => refuse .badParameter s

/-- A port that is not the station's owner is refused with NOT-OWNER. -/
def ifOwner (p : Port) (st : Station) (s : State) (r : Answer) : Answer :=
  if s.owner st = some p then r else refuse .notOwner s

/-- A command that would be a record-memory step is refused with BUSY while PFAIL is high (R37). -/
def ifPowerGood (s : State) (r : Answer) : Answer := if s.pfail then refuse .busy s else r

/-- A command that writes `n` records is refused with JOURNAL-FULL when the journal has no room for them (R35). -/
def ifRoom (n : Nat) (s : State) (r : Answer) : Answer := if s.hasRoom n then r else refuse .journalFull s

/-! ### Accesses of the data byte (R172 to R176) -/

/-- A write taken as a command code (R172). -/
def takeCommandCode (p : Port) (b : Byte) (s : State) : State :=
  let q := s.port p
  match fixedParameters b with
  | none => s.putPort p { q with ignored := false, command := [b], result := [Completion.unknownCommand.code], phase := .result }
  | some n =>
    s.putPort p { q with ignored := false, command := [b], phase := if n = 0 then .executing else .commandParams }

/-- A write taken as the next parameter; the last of them takes the port to EXECUTING (R173). -/
def takeParameter (p : Port) (b : Byte) (s : State) : State :=
  let q := s.port p
  let command := q.command ++ [b]
  let complete := parametersWanted (command.headD 0#8) command.tail ≤ command.tail.length
  s.putPort p { q with command := command, phase := if complete then .executing else .commandParams }

/-- An access that its phase does not take sets IGNORED (R176). -/
def disregard (p : Port) (s : State) : State := s.putPort p { s.port p with ignored := true }

/-- The byte that a read of the data byte returns (log entry 16). -/
def returnByte (p : Port) (b : Byte) (s : State) : State := s.putPort p { s.port p with readOut := some b }

/-- A write of the data byte, by phase (TABLE 9-3). -/
def dataWrite (p : Port) (b : Byte) (s : State) : State :=
  if s.running then
    match (s.port p).phase with
    | .commandIdle => takeCommandCode p b s
    | .commandParams => takeParameter p b s
    | .executing => disregard p s
    | .result => disregard p s
  else s

/-- The next result byte leaves the result buffer; the last one takes the port to COMMAND-IDLE (R175). -/
def takeResultByte (p : Port) (s : State) : State :=
  let q := s.port p
  returnByte p (q.result.headD 0xFF#8)
    (s.putPort p { q with result := q.result.tail, phase := if q.result.tail.isEmpty then .commandIdle else .result })

/-- A read of the data byte, by phase (TABLE 9-3). -/
def dataRead (p : Port) (s : State) : State :=
  if s.running then
    match (s.port p).phase with
    | .commandIdle => returnByte p 0xFF#8 (disregard p s)
    | .commandParams => returnByte p 0xFF#8 (disregard p s)
    | .executing => returnByte p 0xFF#8 (disregard p s)
    | .result => takeResultByte p s
  else s

/-! The rows of the port accesses name what an access turns out to be; the port's phase decides that (log entry 20). The bus
cycle itself stands with the port reset (CommandTable.lean). -/

def execCommandCodeTaken (p : Port) (b : Byte) (s : State) : Host.Outcome State Fault Refusal := .next (dataWrite p b s)
def execUnknownCommand (p : Port) (b : Byte) (s : State) : Host.Outcome State Fault Refusal := .next (dataWrite p b s)
def execParameterByteWrite (p : Port) (b : Byte) (s : State) : Host.Outcome State Fault Refusal := .next (dataWrite p b s)
def execResultByteRead (p : Port) (s : State) : Host.Outcome State Fault Refusal := .next (dataRead p s)

end Sys2Proof.Machine
end

