-- ==== Sys2Proof/Machine/CalendarCommands.lean ====
section
/-! DEFINITION. The commands of the calendar, the class tables and the threshold (codes 40H to 49H; Sections 4 and 5). -/

namespace Sys2Proof.Machine

/-- SET CLOCK (R64). -/
def setClock : Command := fun _ ps s =>
  if 1439 < numAt ps 2 then refuse .badParameter s else done [] (setClockTo (numAt ps 0) (numAt ps 2) s)

/-- READ CLOCK (R65). -/
def readClock : Command := fun _ _ s =>
  done (be16 s.clock.day ++ be16 s.clock.minute ++ [byte (s.clock.day % 7), bit s.clock.unset]) s

/-- SET HOURS (R69). -/
def setHours : Command := fun _ ps s =>
  match weekdayOfByte (byteAt ps 0) with
  | none => refuse .badParameter s
  | some w =>
    if 1440 < numAt ps 3 ∨ numAt ps 3 < numAt ps 1 then refuse .badParameter s
    else done [] (writeSettings { s.config with hours := s.config.hours.set w ⟨numAt ps 1, numAt ps 3⟩ } s)

/-- ADD CLOSURE (R71). -/
def addClosure : Command := fun _ ps s =>
  let day := numAt ps 0
  if s.isStale day then refuse .badParameter s
  else
    ifPowerGood s <|
      if s.rm.closures.contains day then refuse .alreadyExists s
      else if Config.closuresMax ≤ s.rm.closures.length then refuse .tableFull s
      else done [] (insertClosure day s)

/-- REMOVE CLOSURE (R71). -/
def removeClosure : Command := fun _ ps s =>
  let day := numAt ps 0
  ifPowerGood s <| if s.rm.closures.contains day then done [] (dropClosure day s) else refuse .notFound s

/-- A period as an item class of a kind stores it (R74). -/
def storedPeriod (k : ClassKind) (period : Nat) : Nat := if k = .hour then min period 72 else period

/-- SET PERIOD (R74). -/
def setPeriod : Command := fun _ ps s =>
  match itemClassOfByte (byteAt ps 0), borrowerClassOfByte (byteAt ps 1) with
  | some ic, some bc =>
    let period := storedPeriod (s.config.itemClasses.get ic).kind (byteAt ps 2).toNat
    done [] (writeSettings
      { s.config with periods := s.config.periods.set ic ((s.config.periods.get ic).set bc period) } s)
  | _, _ => refuse .badParameter s

/-- The row of SET ITEM CLASS, each number above its range stored as the top of the range (R73). -/
def storedItemClass (k : ClassKind) (ps : List Byte) : ItemClass :=
  { kind := k, grace := min (byteAt ps 2).toNat 15, rate := min (numAt ps 3) 2000, cap := min (numAt ps 5) 65000,
    maxRenewals := min (byteAt ps 7).toNat 15 }

/-- The periods of an item class whose kind is set: a change from DAY to HOUR takes those above 72 to 72 (R73). -/
def periodsForKind (old new : ClassKind) (row : Vector Nat 8) : Vector Nat 8 :=
  if old = .day ∧ new = .hour then row.map (fun n => min n 72) else row

/-- SET ITEM CLASS (R73). -/
def setItemClass : Command := fun _ ps s =>
  match itemClassOfByte (byteAt ps 0), classKindOfByte (byteAt ps 1) with
  | some ic, some k =>
    done [] (writeSettings
      { s.config with
        itemClasses := s.config.itemClasses.set ic (storedItemClass k ps),
        periods := s.config.periods.set ic
          (periodsForKind (s.config.itemClasses.get ic).kind k (s.config.periods.get ic)) } s)
  | _, _ => refuse .badParameter s

/-- A term limit of FFFFH is absent (R75, R195). -/
def termLimitOf (n : Nat) : Option Nat := if n = 65535 then none else some n

/-- SET BORROWER CLASS (R75). -/
def setBorrowerClass : Command := fun _ ps s =>
  match borrowerClassOfByte (byteAt ps 0) with
  | none => refuse .badParameter s
  | some bc =>
    done [] (writeSettings
      { s.config with
        borrowerClasses := s.config.borrowerClasses.set bc ⟨(byteAt ps 1).toNat, termLimitOf (numAt ps 2)⟩ } s)

/-- COMPUTE DUE (R82). -/
def computeDueCommand : Command := fun _ ps s =>
  match itemClassOfByte (byteAt ps 0), borrowerClassOfByte (byteAt ps 1) with
  | some ic, some bc =>
    if s.clock.unset then refuse .clockUnset s
    else done ((s.dueAt s.clock.day s.clock.minute ic bc).bytes (s.config.itemClasses.get ic).kind) s
  | _, _ => refuse .badParameter s

/-- SET THRESHOLD (R94). -/
def setThreshold : Command := fun _ ps s =>
  done [] (writeSettings { s.config with threshold := min (number (slice ps 0 3)) Config.amountMax } s)

def execSetClock (p : Port) (s : State) : Host.Outcome State Fault Refusal := .next (runCommand 0x40#8 setClock p s)
def execReadClock (p : Port) (s : State) : Host.Outcome State Fault Refusal := .next (runCommand 0x41#8 readClock p s)
def execSetHours (p : Port) (s : State) : Host.Outcome State Fault Refusal := .next (runCommand 0x42#8 setHours p s)
def execAddClosure (p : Port) (s : State) : Host.Outcome State Fault Refusal := .next (runCommand 0x43#8 addClosure p s)
def execRemoveClosure (p : Port) (s : State) : Host.Outcome State Fault Refusal := .next (runCommand 0x44#8 removeClosure p s)
def execSetPeriod (p : Port) (s : State) : Host.Outcome State Fault Refusal := .next (runCommand 0x45#8 setPeriod p s)
def execSetItemClass (p : Port) (s : State) : Host.Outcome State Fault Refusal := .next (runCommand 0x46#8 setItemClass p s)
def execSetBorrowerClass (p : Port) (s : State) : Host.Outcome State Fault Refusal :=
  .next (runCommand 0x47#8 setBorrowerClass p s)
def execComputeDue (p : Port) (s : State) : Host.Outcome State Fault Refusal :=
  .next (runCommand 0x48#8 computeDueCommand p s)
def execSetThreshold (p : Port) (s : State) : Host.Outcome State Fault Refusal := .next (runCommand 0x49#8 setThreshold p s)

end Sys2Proof.Machine
end

