-- ==== Sys2Proof/Machine/LinkCommands.lean ====
section
/-! DEFINITION. The commands of the UPLOAD LINK and of mode control (codes 60H to 63H and 70H; Sections 8.7 and 10.1). -/

namespace Sys2Proof.Machine

/-- START UPLOAD (R164). -/
def startUpload : Command := fun _ _ s => if s.link.run.inRun then refuse .busy s else done [] (beginRun s)

/-- STOP UPLOAD (R165): what is being transmitted is cut off, and the run fails STOPPED. -/
def stopUpload : Command := fun _ _ s =>
  if s.link.run.inRun then done [] (runFailed .stopped (onLink (fun l => { l with jam := none, sending := [] }) s))
  else refuse .wrongState s

/-- LINK STATUS (R166). -/
def linkStatus : Command := fun _ _ s =>
  done ([s.link.run.code] ++ s.link.outcome.bytes ++ be16 s.pendingCount ++ [byte s.link.attempts]) s

/-- The system number has a nibble above 9. -/
def systemBad (w : Nat) : Bool := [w / 4096, w / 256, w / 16, w].any (fun n => decide (9 < n % 16))

/-- The settings of SET LINK in their places (R167). -/
def linkSettings (ps : List Byte) (c : Configuration) : Configuration :=
  { c with address := (byteAt ps 0).toNat, system := BitVec.ofNat 16 (numAt ps 1), windowStart := numAt ps 3,
           windowEnd := numAt ps 5, retryInterval := min (max (byteAt ps 7).toNat 1) 120 }

/-- The link's window open flag judged afresh without a window start or window end (R167). -/
def rejudgeLink (s : State) : State :=
  onLink (fun l =>
    if l.run = .armed ∧ s.windowJudged = false then { l with windowOpen := false, run := .idle, retry := none }
    else { l with windowOpen := s.windowJudged }) s

/-- Mode control's window open flag judged afresh without a boundary: with the hold clear the mode follows it (R190). -/
def rejudgeMode (s : State) : State :=
  let s' := { s with modeWindow := s.windowJudged }
  if s.modeHold then s' else changeMode (scheduledMode s.windowJudged) s'

/-- SET LINK (R167, R190). -/
def setLink : Command := fun _ ps s =>
  if (byteAt ps 0).toNat = 0 ∨ (byteAt ps 0).toNat = 255 ∨ systemBad (numAt ps 1) = true ∨ 1439 < numAt ps 3
      ∨ 1439 < numAt ps 5 then refuse .badParameter s
  else if s.link.run.inRun then refuse .busy s
  else done [] (rejudgeMode (rejudgeLink (writeSettings (linkSettings ps s.config) s)))

/-- SET MODE (R190). -/
def setMode : Command := fun _ ps s =>
  match modeOfByte (byteAt ps 0) with
  | some m => done [] (changeMode m { s with modeHold := true })
  | none => refuse .badParameter s

def execStartUpload (p : Port) (s : State) : Host.Outcome State Fault Refusal := .next (runCommand 0x60#8 startUpload p s)
def execStopUpload (p : Port) (s : State) : Host.Outcome State Fault Refusal := .next (runCommand 0x61#8 stopUpload p s)
def execLinkStatus (p : Port) (s : State) : Host.Outcome State Fault Refusal := .next (runCommand 0x62#8 linkStatus p s)
def execSetLink (p : Port) (s : State) : Host.Outcome State Fault Refusal := .next (runCommand 0x63#8 setLink p s)
def execSetMode (p : Port) (s : State) : Host.Outcome State Fault Refusal := .next (runCommand 0x70#8 setMode p s)

end Sys2Proof.Machine
end

