-- ==== Sys2Proof/Machine/PortCommands.lean ====
section
/-! DEFINITION. The commands of the ports themselves and of the wand stations (codes 01H to 14H; Sections 1.8 and 9). -/

namespace Sys2Proof.Machine

/-- IDENTIFY (R186). -/
def identify : Command := fun p _ s =>
  done [0x4C#8, 0x01#8, roleCode (s.port p).role, roleCode (s.port (otherPort p)).role] s

/-- SET ATTENTION (R183). -/
def setAttention : Command := fun p ps s =>
  match boolOfByte (byteAt ps 0) with
  | some on => done [] (s.putPort p { s.port p with attention := on })
  | none => refuse .badParameter s

/-- TAKE EVENT (R184). -/
def takeEvent : Command := fun p _ s =>
  match (s.port p).events with
  | [] => refuse .empty s
  | e :: rest => done e.bytes (s.putPort p { s.port p with events := rest })

/-- PORT STATUS (R185). -/
def portStatus : Command := fun p _ s =>
  done [byte (s.port p).events.length, byte (s.port p).lost] (s.putPort p { s.port p with lost := 0 })

/-- ASSIGN STATION (R18). -/
def assignStation : Command := fun _ ps s =>
  withStation (byteAt ps 0) s fun st =>
    match ownerOfByte (byteAt ps 1) with
    | none => refuse .badParameter s
    | some owner =>
      if (s.slot st).state ≠ .idle then refuse .wrongState s
      else
        done [] (writeStationConfig st { s.stationConfig st with owner := owner }
          (s.putStation st { s.station st with scans := [], overflow := false }))

/-- STATION STATUS (R20). -/
def stationStatus : Command := fun _ ps s =>
  withStation (byteAt ps 0) s fun st =>
    done [ownerCode (s.owner st), bit (s.station st).present, byte (s.station st).scans.length, bit (s.station st).overflow,
      (s.slot st).state.code] s

/-- READ SCAN (R13). -/
def readScan : Command := fun p ps s =>
  withStation (byteAt ps 0) s fun st =>
    ifOwner p st s <|
      if (s.slot st).state ≠ .idle then refuse .wrongState s
      else
        match (s.station st).scans with
        | [] => refuse .empty s
        | c :: _ => done (codeBytes c) (dropOldestScan st s)

/-- KEY ENTRY (R14). -/
def keyEntry : Command := fun p ps s =>
  withStation (byteAt ps 0) s fun st =>
    ifOwner p st s <|
      if codeValid (codeAt ps 1) = false then refuse .badCode s
      else if Config.scanSlotsMax ≤ (s.station st).scans.length then refuse .full s
      else done [] (joinScans st (codeAt ps 1) s)

/-- SET STATION (R19). -/
def setStation : Command := fun _ ps s =>
  withStation (byteAt ps 0) s fun st =>
    done [] (writeStationConfig st
      { s.stationConfig st with repeatWindow := min (numAt ps 1) 5000, timeout := min (numAt ps 3) 600 } s)

def execIdentify (p : Port) (s : State) : Host.Outcome State Fault Refusal := .next (runCommand 0x01#8 identify p s)
def execSetAttention (p : Port) (s : State) : Host.Outcome State Fault Refusal := .next (runCommand 0x02#8 setAttention p s)
def execTakeEvent (p : Port) (s : State) : Host.Outcome State Fault Refusal := .next (runCommand 0x03#8 takeEvent p s)
def execPortStatus (p : Port) (s : State) : Host.Outcome State Fault Refusal := .next (runCommand 0x04#8 portStatus p s)
def execAssignStation (p : Port) (s : State) : Host.Outcome State Fault Refusal := .next (runCommand 0x10#8 assignStation p s)
def execStationStatus (p : Port) (s : State) : Host.Outcome State Fault Refusal := .next (runCommand 0x11#8 stationStatus p s)
def execReadScan (p : Port) (s : State) : Host.Outcome State Fault Refusal := .next (runCommand 0x12#8 readScan p s)
def execKeyEntry (p : Port) (s : State) : Host.Outcome State Fault Refusal := .next (runCommand 0x13#8 keyEntry p s)
def execSetStation (p : Port) (s : State) : Host.Outcome State Fault Refusal := .next (runCommand 0x14#8 setStation p s)

end Sys2Proof.Machine
end

