-- ==== Sys2Proof/Machine/SlipCommands.lean ====
section
/-! DEFINITION. The commands of the SLIP UNIT (codes 50H to 54H; Section 7.4). -/

namespace Sys2Proof.Machine

/-- The text lines of PRINT NOTE: `n` lines of 32 characters (R134). -/
def noteLines : Nat → List Byte → List (List Byte)
  | 0, _ => []
  | n + 1, bs => bs.take 32 :: noteLines n (bs.drop 32)

/-- PRINT NOTE (R134). -/
def printNote : Command := fun p ps s =>
  let n := (byteAt ps 0).toNat
  if n = 0 ∨ 6 < n then refuse .badParameter s
  else if s.slipRoom = false then refuse .full s
  else done (be16 s.nextSlip) (faultLast (queueSlip (noteSlip p (noteLines n ps.tail) s)) s)

/-- REPRINT LAST (R135). -/
def reprintLast : Command := fun p ps s =>
  withStation (byteAt ps 0) s fun st =>
    ifOwner p st s <|
      match s.slip.lastSlip.get st with
      | none => refuse .empty s
      | some sl =>
        if s.slipRoom then done (be16 s.nextSlip) (faultLast (queueSlip (copySlip p sl)) s) else refuse .full s

/-- PRINTER STATUS (R142). -/
def printerStatus : Command := fun _ _ s =>
  done ([s.slip.printer.code, byte s.slip.queue.length, bit s.slip.paperOut, byte s.slip.waiting.length]
    ++ be16OrAbsent s.slip.headNumber) s

/-- SET HEADER (R136). -/
def setHeader : Command := fun _ ps s =>
  done [] (writeSettings { s.config with header := (ps.take 32).map printable } s)

/-- An idle time as it is stored (R137). -/
def storedIdleTime (n : Nat) : Nat := if n = 0 then 0 else min (max n 5) 600

/-- SET PRINTER (R137). -/
def setPrinter : Command := fun _ ps s =>
  done [] (writeSettings { s.config with idleTime := storedIdleTime (numAt ps 0) } s)

def execPrintNote (p : Port) (s : State) : Host.Outcome State Fault Refusal := .next (runCommand 0x50#8 printNote p s)
def execReprintLast (p : Port) (s : State) : Host.Outcome State Fault Refusal := .next (runCommand 0x51#8 reprintLast p s)
def execPrinterStatus (p : Port) (s : State) : Host.Outcome State Fault Refusal := .next (runCommand 0x52#8 printerStatus p s)
def execSetHeader (p : Port) (s : State) : Host.Outcome State Fault Refusal := .next (runCommand 0x53#8 setHeader p s)
def execSetPrinter (p : Port) (s : State) : Host.Outcome State Fault Refusal := .next (runCommand 0x54#8 setPrinter p s)

end Sys2Proof.Machine
end

