-- ==== Sys2Proof/Machine/TableCommands.lean ====
section
/-! DEFINITION. The commands of the record-memory collections (codes 30H to 38H; Sections 2, 3 and 5) and the searches in
flight (R41). -/

namespace Sys2Proof.Machine

/-! ### Searches -/

/-- The codes of a field of a table, in the table's order; none where the field is absent (R41, TABLE 2-7). -/
def Collections.fieldCodes (c : Collections) : Table → Field → List (Option Code)
  | .journal, .borrower => c.journal.map Record.borrower
  | .journal, .item => c.journal.map Record.item
  | .loans, .borrower => c.loans.map (fun l => some l.borrower)
  | .loans, .item => c.loans.map (fun l => some l.item)
  | .blocks, .borrower => c.blocks.map (fun b => some b.borrower)
  | .flags, .borrower => c.flags.map FlagEntry.reserver
  | .flags, .item => c.flags.map (fun f => some f.item)
  | _, _ => []

/-- An entry matches when its field is present and meets the pattern (R41). -/
def fieldMatches (pattern : Code) : Option Code → Bool
  | some c => matchesPattern pattern c
  | none => false

/-- The index of the first matching entry from the search's position on, if there is one. -/
def Search.firstHit (x : Search) (c : Collections) : Option Nat :=
  (((c.fieldCodes x.table x.field).drop x.position).findIdx? (fieldMatches x.pattern)).map (· + x.position)

/-- FIND-DONE (R41, R42). -/
def findDoneEvent (end_ : SearchEnd) (index : Option Nat) : Event :=
  { kind := .findDone, value := index.map .number, reason := some (.search end_) }

/-- A port's search ended, with FIND-DONE. -/
def endSearch (p : Port) (e : Event) (s : State) : State := post p e (s.putPort p { s.port p with search := none })

/-- FIND_DONE (R41): the search examines the entries from its position to the first match or to the end of the table. -/
def onFindDone (p : Port) (s : State) : State :=
  match (s.port p).search with
  | some x =>
    if s.running then
      match x.firstHit s.rm with
      | some i => endSearch p (findDoneEvent .hit (some i)) s
      | none => endSearch p (findDoneEvent .miss none) s
    else s
  | none => s

/-- One examination of a search in flight that ends neither by a match nor at the end of the table (R41). -/
def Search.examine (x : Search) (c : Collections) : Search :=
  match (c.fieldCodes x.table x.field)[x.position]? with
  | some f => if fieldMatches x.pattern f then x else { x with position := x.position + 1 }
  | none => x

/-- FIND (R40). -/
def find : Command := fun p ps s =>
  match tableOfByte (byteAt ps 0), fieldOfByte (byteAt ps 1) with
  | some t, some f =>
    if hasFindField t f = false then refuse .badParameter s
    else if patternBad (codeAt ps 4) then refuse .badParameter s
    else if (s.port p).search.isSome then refuse .busy s
    else
      done [] (s.putPort p { s.port p with
        search := some ⟨t, f, codeAt ps 4, min (numAt ps 2) (s.rm.count t)⟩ })
  | _, _ => refuse .badParameter s

/-- ABORT FIND (R42). -/
def abortFind : Command := fun p _ s =>
  match (s.port p).search with
  | some _ => done [] (endSearch p (findDoneEvent .aborted none) s)
  | none => refuse .wrongState s

/-- READ ENTRY (R43). -/
def readEntry : Command := fun _ ps s =>
  match tableOfByte (byteAt ps 0) with
  | none => refuse .badParameter s
  | some t =>
    match s.rm.entryBytes t (numAt ps 1) with
    | some bytes => done bytes s
    | none => refuse .empty s

/-- TABLE COUNTS (R44). -/
def tableCounts : Command := fun _ _ s =>
  done (be16 (s.rm.count .journal) ++ be16 (s.rm.count .loans) ++ be16 (s.rm.count .blocks) ++ be16 (s.rm.count .flags)
    ++ be16 (s.rm.count .balances) ++ be16 (s.rm.count .closures) ++ be16 s.pendingCount) s

/-! ### Payments, blocks and flags -/

/-- The PAYMENT record of RECORD PAYMENT with the borrower's balance (R90, R95). -/
def payMoney (p : Port) (b : Code) (cents : Nat) (s : State) : State := writeMoney { kind := .payment, port := p } b cents s

/-- The step of RECORD PAYMENT: the PAYMENT and then the threshold test (R93, R95). -/
def paymentStep (p : Port) (b : Code) (cents : Nat) (s : State) : State :=
  highWater (runTest none p b (payMoney p b cents s))

/-- The records of a payment (R95, check 4). -/
def State.paymentRecords (s : State) (p : Port) (b : Code) (cents : Nat) : Nat :=
  1 + (payMoney p b cents s).testRecords b

/-- RECORD PAYMENT (R95). -/
def recordPayment : Command := fun p ps s =>
  let b := codeAt ps 0
  let cents := number (slice ps 7 3)
  if borrowerValid b = false then refuse .badCode s
  else if cents = 0 ∨ Config.amountMax < cents then refuse .badParameter s
  else
    ifPowerGood s <| ifRoom (s.paymentRecords p b cents) s <|
      done (if s.tracks b then be24 ((paymentStep p b cents s).balanceOf b) else absent 3) (paymentStep p b cents s)

/-- The step of ADD BLOCK (R48). -/
def addBlockStep (p : Port) (b : Code) (reason : BlockReason) (s : State) : State :=
  highWater (writeRecord { kind := .blockSet, port := p, borrower := some b, amount := some reason.code.toNat }
    (putBlock ⟨b, reason, .staff, s.clock.day⟩ s))

/-- ADD BLOCK (R48). -/
def addBlock : Command := fun p ps s =>
  let b := codeAt ps 0
  if borrowerValid b = false then refuse .badCode s
  else
    match blockReasonOfByte (byteAt ps 7) with
    | none => refuse .badParameter s
    | some reason =>
      ifPowerGood s <|
        if (s.blockOf b).isSome then refuse .alreadyExists s
        else if Config.blocksMax ≤ s.rm.blocks.length then refuse .tableFull s
        else ifRoom 1 s (done [] (addBlockStep p b reason s))

/-- The step of REMOVE BLOCK (R51). -/
def removeBlockStep (p : Port) (b : Code) (s : State) : State :=
  highWater (writeRecord { kind := .blockClear, port := p, borrower := some b } (removeBlockOf b s))

/-- REMOVE BLOCK (R51). -/
def removeBlock : Command := fun p ps s =>
  let b := codeAt ps 0
  if borrowerValid b = false then refuse .badCode s
  else
    ifPowerGood s <|
      if (s.blockOf b).isNone then refuse .notFound s else ifRoom 1 s (done [] (removeBlockStep p b s))

/-- The step of SET ITEM FLAG (R56). -/
def setItemFlagStep (p : Port) (item : Code) (flag : ItemFlag) (reserver : Option Code) (s : State) : State :=
  highWater (writeRecord
    { kind := .flagSet, port := p, item := some item, borrower := reserver, amount := some flag.code.toNat }
    (putFlag ⟨item, flag, reserver, s.clock.day⟩ s))

/-- The checks of SET ITEM FLAG that follow those of its codes (R56, checks 4 to 6). -/
def setItemFlagChecked (p : Port) (item : Code) (flag : ItemFlag) (reserver : Option Code) (s : State) : Answer :=
  ifPowerGood s <|
    if (s.flagOf item).isNone ∧ Config.flagsMax ≤ s.rm.flags.length then refuse .tableFull s
    else ifRoom 1 s (done [] (setItemFlagStep p item flag reserver s))

/-- SET ITEM FLAG (R56, R195). -/
def setItemFlag : Command := fun p ps s =>
  let item := codeAt ps 0
  if itemValid item = false then refuse .badCode s
  else
    match itemFlagOfByte (byteAt ps 7) with
    | none => refuse .badParameter s
    | some .reserved =>
      if codeAt ps 8 = BitVec.allOnes 56 then refuse .badParameter s
      else if borrowerValid (codeAt ps 8) = false then refuse .badCode s
      else setItemFlagChecked p item .reserved (some (codeAt ps 8)) s
    | some flag => setItemFlagChecked p item flag none s

/-- The step of CLEAR ITEM FLAG (R57). -/
def clearItemFlagStep (p : Port) (item : Code) (s : State) : State :=
  highWater (writeRecord { kind := .flagClear, port := p, item := some item } (removeFlagOf item s))

/-- CLEAR ITEM FLAG (R57). -/
def clearItemFlag : Command := fun p ps s =>
  let item := codeAt ps 0
  if itemValid item = false then refuse .badCode s
  else
    ifPowerGood s <|
      if (s.flagOf item).isNone then refuse .notFound s else ifRoom 1 s (done [] (clearItemFlagStep p item s))

def execFind (p : Port) (s : State) : Host.Outcome State Fault Refusal := .next (runCommand 0x30#8 find p s)
def execAbortFind (p : Port) (s : State) : Host.Outcome State Fault Refusal := .next (runCommand 0x31#8 abortFind p s)
def execReadEntry (p : Port) (s : State) : Host.Outcome State Fault Refusal := .next (runCommand 0x32#8 readEntry p s)
def execRecordPayment (p : Port) (s : State) : Host.Outcome State Fault Refusal := .next (runCommand 0x33#8 recordPayment p s)
def execAddBlock (p : Port) (s : State) : Host.Outcome State Fault Refusal := .next (runCommand 0x34#8 addBlock p s)
def execRemoveBlock (p : Port) (s : State) : Host.Outcome State Fault Refusal := .next (runCommand 0x35#8 removeBlock p s)
def execSetItemFlag (p : Port) (s : State) : Host.Outcome State Fault Refusal := .next (runCommand 0x36#8 setItemFlag p s)
def execClearItemFlag (p : Port) (s : State) : Host.Outcome State Fault Refusal := .next (runCommand 0x37#8 clearItemFlag p s)
def execTableCounts (p : Port) (s : State) : Host.Outcome State Fault Refusal := .next (runCommand 0x38#8 tableCounts p s)
def execFindDone (p : Port) (s : State) : Host.Outcome State Fault Refusal := .next (onFindDone p s)

end Sys2Proof.Machine
end

