-- ==== Sys2Proof/Machine/TransactionCommands.lean ====
section
/-! DEFINITION. The commands of the transaction slots (codes 20H to 24H; Section 6). -/

namespace Sys2Proof.Machine

/-- The state that OPEN TRANSACTION enters (R101). -/
def openedState : TxMode → SlotState
  | .returning => .returning
  | _ => .awaitPatron

/-- OPEN TRANSACTION (R100, R101). The codes that wait are taken by the steps that follow (log entry 6). -/
def openTransaction : Command := fun p ps s =>
  withStation (byteAt ps 0) s fun st =>
    ifOwner p st s <|
      match txModeOfByte (byteAt ps 1), boolOfByte (byteAt ps 2) with
      | some m, some slip =>
        if s.mode = .night then refuse .night s
        else if s.clock.unset then refuse .clockUnset s
        else if (s.slot st).state ≠ .idle then refuse .wrongState s
        else
          done [] (s.putSlot st { Slot.fresh with
            state := openedState m, mode := some m, slipWanted := slip, timer := s.timerStart st })
      | _, _ => refuse .badParameter s

/-- The result of CLOSE TRANSACTION: the state that the slot enters and the slip number (R103). -/
def closeResult (st : Station) (s : State) : List Byte :=
  if s.wantsSlip st then
    if s.slipRoom then SlotState.idle.code :: be16 s.nextSlip else SlotState.closing.code :: absent 2
  else SlotState.idle.code :: absent 2

/-- CLOSE TRANSACTION (R100, R103), with a PRINTER-FAULT last (log entry 7). -/
def closeTransaction : Command := fun p ps s =>
  withStation (byteAt ps 0) s fun st =>
    ifOwner p st s <|
      if (s.slot st).state.isOpen then done (closeResult st s) (faultLast (closeSlot st none) s) else refuse .wrongState s

/-- CANCEL TRANSACTION (R100, R105). -/
def cancelTransaction : Command := fun p ps s =>
  withStation (byteAt ps 0) s fun st =>
    ifOwner p st s <|
      if (s.slot st).state.isOpen = false then refuse .wrongState s
      else if (s.slot st).draft.isEmpty then done [] (cancelSlot st s) else refuse .hasItems s

/-- The step of OVERRIDE BLOCK (R112). -/
def overrideStep (p : Port) (st : Station) (patron : Code) (s : State) : State :=
  let s1 := writeRecord { kind := .override, port := p, borrower := some patron } s
  let s2 := s1.putSlot st { s1.slot st with overridden := true, state := .serving }
  highWater (restartTimer st (reportPatronOk st patron s2))

/-- OVERRIDE BLOCK (R100, R112); a slot in PATRON-BLOCKED holds a patron. -/
def overrideBlock : Command := fun p ps s =>
  withStation (byteAt ps 0) s fun st =>
    if (s.port p).role = .kiosk then refuse .notPermitted s
    else
      ifOwner p st s <|
        match (s.slot st).state, (s.slot st).patron with
        | .patronBlocked, some patron => ifPowerGood s (ifRoom 1 s (done [] (overrideStep p st patron s)))
        | _, _ => refuse .wrongState s

/-- A transaction mode as a result byte, absent in IDLE (R121). -/
def modeByte : Option TxMode → Byte
  | some m => m.code
  | none => 0xFF#8

/-- TRANSACTION STATUS (R121). Slip wanted is sent as 1 for yes and 0 for no, and the override flag as 1 for set and 0 for clear: the
model's choice, since Section 11 gives no values for these two bytes (log entry 37). -/
def transactionStatus : Command := fun _ ps s =>
  withStation (byteAt ps 0) s fun st =>
    let sl := s.slot st
    done ([sl.state.code, modeByte sl.mode, bit sl.slipWanted] ++ codeOrAbsent sl.patron
      ++ [byte sl.draft.length, bit sl.overridden] ++ codeOrAbsent sl.reopen) s

def execOpenTransaction (p : Port) (s : State) : Host.Outcome State Fault Refusal :=
  .next (runCommand 0x20#8 openTransaction p s)
def execCloseTransaction (p : Port) (s : State) : Host.Outcome State Fault Refusal :=
  .next (runCommand 0x21#8 closeTransaction p s)
def execCancelTransaction (p : Port) (s : State) : Host.Outcome State Fault Refusal :=
  .next (runCommand 0x22#8 cancelTransaction p s)
def execOverrideBlock (p : Port) (s : State) : Host.Outcome State Fault Refusal :=
  .next (runCommand overrideCode overrideBlock p s)
def execTransactionStatus (p : Port) (s : State) : Host.Outcome State Fault Refusal :=
  .next (runCommand 0x24#8 transactionStatus p s)

end Sys2Proof.Machine
end

