-- ==== Sys2Proof/Machine/CommandTable.lean ====
section
/-! DEFINITION. The command table as a whole (TABLE 11-2), the command that a port executes, the port reset (R178), which
executes it first, and the bus cycle (R170), which is any of a port's accesses. -/

namespace Sys2Proof.Machine

/-- The rules of the commands by code (TABLE 11-2). -/
def commandRules : List (Byte × Command) :=
  [(0x01#8, identify), (0x02#8, setAttention), (0x03#8, takeEvent), (0x04#8, portStatus), (0x10#8, assignStation),
   (0x11#8, stationStatus), (0x12#8, readScan), (0x13#8, keyEntry), (0x14#8, setStation)] ++
  [(0x20#8, openTransaction), (0x21#8, closeTransaction), (0x22#8, cancelTransaction), (overrideCode, overrideBlock),
   (0x24#8, transactionStatus)] ++
  [(0x30#8, find), (0x31#8, abortFind), (0x32#8, readEntry), (0x33#8, recordPayment), (0x34#8, addBlock),
   (0x35#8, removeBlock), (0x36#8, setItemFlag), (0x37#8, clearItemFlag), (0x38#8, tableCounts)] ++
  [(0x40#8, setClock), (0x41#8, readClock), (0x42#8, setHours), (0x43#8, addClosure), (0x44#8, removeClosure),
   (0x45#8, setPeriod), (0x46#8, setItemClass), (0x47#8, setBorrowerClass), (0x48#8, computeDueCommand),
   (0x49#8, setThreshold)] ++
  [(0x50#8, printNote), (0x51#8, reprintLast), (0x52#8, printerStatus), (0x53#8, setHeader), (0x54#8, setPrinter)] ++
  [(0x60#8, startUpload), (0x61#8, stopUpload), (0x62#8, linkStatus), (0x63#8, setLink), (0x70#8, setMode)]

/-- The command that the port executes, whichever it is, has its one event (R174). -/
def runBuffered (p : Port) (s : State) : State :=
  match (s.port p).command with
  | [] => s
  | code :: _ =>
    match commandRules.lookup code with
    | some cmd => runCommand code cmd p s
    | none => s

/-- A port as a port reset leaves it before its stations' transactions end: role and attention enable are kept
(R178, steps 1 to 4). -/
def PortState.cleared (q : PortState) : PortState :=
  { q with phase := .commandIdle, command := [], result := [], ignored := false, events := [], lost := 0, search := none }

/-- The stations that a port owns, in ascending order. -/
def State.ownedBy (s : State) (p : Port) : List Station := allStations.filter (fun st => s.owner st == some p)

/-- The port reset of a port that executes no command: the port cleared, and the transactions of its stations ended
(R125, R178). -/
def resetPort (p : Port) (s : State) : State := endSlots (s.ownedBy p) (s.putPort p (s.port p).cleared)

/-- PORT_RESET (R178): a command in EXECUTING has its effect first (log entry 21). -/
def onPortReset (p : Port) (s : State) : State :=
  if s.running then
    if (s.port p).phase = .executing then resetPort p (runBuffered p s) else resetPort p s
  else s

/-! ### The bus cycle (R170, R171) -/

/-- An access of a port (R170). -/
inductive Access where
  | statusRead
  | statusWrite (b : Byte)
  | dataRead
  | dataWrite (b : Byte)
  deriving DecidableEq, Repr

/-- The access that a bus cycle is, if it is one (R170): one strobe given while the chip select is active, at the byte that the
address line selects. -/
def accessOf (c : BusCycle) : Option Access :=
  if c.chipSelect = true ∧ c.readStrobe ≠ c.writeStrobe then
    some (match c.addressHigh, c.writeStrobe with
      | false, false => .statusRead
      | false, true => .statusWrite c.data
      | true, false => .dataRead
      | true, true => .dataWrite c.data)
  else none

/-- A write of the status byte (R171): 5AH is a port reset, and any other byte is disregarded. -/
def statusWrite (p : Port) (b : Byte) (s : State) : State := if b = 0x5A#8 then onPortReset p s else s

/-- A bus cycle at a port (R170). A read of the status byte returns State.statusByte and changes nothing (R171). -/
def busCycle (p : Port) (c : BusCycle) (s : State) : State :=
  match accessOf c with
  | none => s
  | some .statusRead => s
  | some (.statusWrite b) => statusWrite p b s
  | some .dataRead => dataRead p s
  | some (.dataWrite b) => dataWrite p b s

def execPortReset (p : Port) (s : State) : Host.Outcome State Fault Refusal := .next (onPortReset p s)
def execDisregardedAccess (p : Port) (cycle : BusCycle) (s : State) : Host.Outcome State Fault Refusal :=
  .next (busCycle p cycle s)

end Sys2Proof.Machine
end

