-- ==== Sys2Proof/Machine/Starts.lean ====
section
/-! DEFINITION. Reset, loss of power and starts (Section 10.2), with the commit area (R36). -/

namespace Sys2Proof.Machine

/-! ### What a reset or a loss of power cuts off -/

/-- The step under way, made whole. -/
def runUnderWay (u : UnderWay) (s : State) : State :=
  match u with
  | .checkoutStep st => onCheckoutStep st s
  | .returnStep st => onReturnStep st s
  | .renewStep st => onRenewStep st s
  | .command p => runBuffered p s
  | .ackFrame f => onAckFrame f s
  | .updateFrame f => onUpdateFrame f s
  | .broadcastUpdate f => onBroadcastUpdate f s
  | .endFrame f => onEndFrame f s
  | .newMinute => onNewMinute s
  | .pfailFall => onPfailFall s

/-- What a step cut off has moved outside the collections: the clock, which a clock setting or a new minute moves before its purge, and
the PFAIL input, which has fallen before the step that its fall begins (R37, R62, R191; log entry 9). -/
def movedBy (u : UnderWay) (s : State) : State :=
  { s with clock := (runUnderWay u s).clock, pfail := (runUnderWay u s).pfail }

/-- The record memory, the clock and the PFAIL input as the cut leaves them (R36, R191, R194; log entries 8 and 9). -/
def applyCut (cut : Cut) (s : State) : State :=
  match cut with
  | .between => s
  | .filling u => { movedBy u s with commit := .incomplete }
  | .complete u => { movedBy u s with commit := .complete (runUnderWay u s).rm }
  | .settingTorn p => { s with config := (runBuffered p s).config }

/-- Indicators silent, at one station (R191). -/
def silence (w : WandStation) : WandStation := { w with indicator := none }

/-- The part does nothing: work under way stops where it stands, the indicators are silent and nothing is sent (R191). -/
def stopPart (s : State) : State :=
  { s with
    running := false,
    stations := ⟨silence s.stations.s0, silence s.stations.s1, silence s.stations.s2, silence s.stations.s3⟩,
    link := { s.link with sending := [] } }

/-- The part stopped, with what the cut leaves when it was running. -/
def cutOff (cut : Cut) (s : State) : State := stopPart (if s.running then applyCut cut s else s)

/-- RESET_ASSERT (R191): the reset pin is asserted, and stays so until a start. -/
def onResetAssert (cut : Cut) (s : State) : State := { cutOff cut s with resetHeld := true }

/-- POWER_LOSS (R191): main power goes; when the backup supply fails as well, the marker is no longer valid. -/
def onPowerLoss (cut : Cut) (backupKept : Bool) (s : State) : State :=
  { cutOff cut s with mainPower := false, marker := s.marker && backupKept }

/-! ### Starts -/

/-- The start is cold (R191): the marker is not valid, or the start follows the reset pin while both straps read KIOSK. -/
def State.startsCold (s : State) (roleA roleB : Role) : Bool :=
  !s.marker || (s.resetHeld && roleA == .kiosk && roleB == .kiosk)

/-- A cold start (R192): every field as State.reset has it, with the roles of the straps, and the inputs and the waiting
commands as they stand. STARTED stands in each queue from the start's own event on: the model's choice (log entry 35). -/
def coldStart (roleA roleB : Role) (s : State) : State :=
  { State.reset with
    pfail := s.pfail,
    slip := SlipUnit.fresh s.slip.paperOut,
    ports := ⟨PortState.coldStarted roleA, PortState.coldStarted roleB⟩,
    pending := s.pending }

/-- The commit area at a warm start (R36): a complete area is applied, any other is lost, and the area is then empty. -/
def recoverCommit (s : State) : State :=
  match s.commit with
  | .complete image => { s with rm := image, commit := .empty }
  | _ => { s with commit := .empty }

/-- The check word holds for the settings as they stand (R193). -/
def State.settingsWhole (s : State) : Bool := checkWordOf s.config == s.checkWord

/-- What STARTED carries at a warm start (R193). -/
def State.warmKind (s : State) : StartKind := if s.settingsWhole then .warm else .warmConfigLost

/-- The settings at a warm start: kept, or all written at their defaults (R193). -/
def checkSettings (s : State) : State := if s.settingsWhole then s else writeSettings Configuration.factory s

/-- The link after a start (R168). -/
def startedLink (s : State) : Link :=
  let fresh := Link.fresh (randomSeed s.config.address s.clock.minute)
  if s.windowJudged then
    { fresh with run := .armed, windowOpen := true, retry := some s.config.retryInterval }
  else fresh

/-- The working memory after a warm start (R21, R38, R99, R143, R168, R187, R193), before STARTED is posted. -/
def freshWorking (roleA roleB : Role) (s : State) : State :=
  { s with
    running := true, mainPower := true, resetHeld := false, purgeWaits := false, armed := true,
    stations := PerStation.const WandStation.fresh, slots := PerStation.const Slot.fresh,
    slip := SlipUnit.fresh s.slip.paperOut, link := startedLink s,
    ports := ⟨PortState.fresh roleA, PortState.fresh roleB⟩,
    mode := scheduledMode s.windowJudged, modeWindow := s.windowJudged, modeHold := false }

/-- STARTED, to every port (R187). -/
def startedEvent (k : StartKind) : Event := { kind := .started, reason := some (.start k) }

/-- A warm start (R193), with STARTED (R187) and, after it, JOURNAL-HIGH where the journal stands high (R38). Both are posted in the
start's own event: the model's choice (log entry 35). -/
def warmStart (roleA roleB : Role) (s : State) : State :=
  let s1 := unsend (recoverCommit s)
  highWater (postAll (startedEvent s1.warmKind) (freshWorking roleA roleB (checkSettings s1)))

/-- START (R191): main power is present, the reset pin is released and PFAIL is low. The start is one event, so that no status read
falls between it and the placing of STARTED, a read in which R187 has EVENT clear: the model's choice (log entry 35). -/
def onStart (roleA roleB : Role) (s : State) : State :=
  if s.running ∨ s.pfail then s
  else if s.startsCold roleA roleB then coldStart roleA roleB s
  else warmStart roleA roleB s

def execResetAssert (cut : Cut) (s : State) : Host.Outcome State Fault Refusal := .next (onResetAssert cut s)
def execPowerLoss (cut : Cut) (backupKept : Bool) (s : State) : Host.Outcome State Fault Refusal :=
  .next (onPowerLoss cut backupKept s)
def execStart (roleA roleB : Role) (s : State) : Host.Outcome State Fault Refusal := .next (onStart roleA roleB s)

end Sys2Proof.Machine
end

