-- ==== Sys2Proof/Machine/Flags.lean ====
section
/-! DEFINITION. The flags a terminal sees without a command: the status byte of a port (TABLE 9-2, TABLE 11-1) and the level of
its attention line (R183). -/

namespace Sys2Proof.Machine

/-- READY: the data byte may be accessed now (TABLE 9-2). -/
def Phase.isReady : Phase → Bool
  | .executing => false
  | _ => true

/-- A field of the status byte at its bit. -/
def statusField (set : Bool) (mask : Byte) : Byte := if set then mask else 0#8

/-- The status byte as a read of it returns it (R171, TABLE 11-1). -/
def State.statusByte (s : State) (p : Port) : Byte :=
  let q := s.port p
  statusField q.phase.isReady 0x80#8 ||| statusField (q.phase = .result) 0x40#8
    ||| statusField (q.phase = .executing) 0x20#8 ||| statusField (!q.events.isEmpty) 0x10#8
    ||| statusField q.search.isSome 0x08#8 ||| statusField q.ignored 0x04#8
    ||| statusField (s.mode = .night) 0x02#8 ||| statusField q.attention 0x01#8

/-- The attention line is high (R183); while the part is stopped it is low (R191). -/
def State.attentionLine (s : State) (p : Port) : Bool := s.running && !(s.port p).events.isEmpty && (s.port p).attention

end Sys2Proof.Machine
end

