-- ==== Sys2Proof/Machine/Idle.lean ====
section
/-! DEFINITION. What a step does when no command waits (log entries 4 and 15): the line under way to the printer is sent whole (R139),
then one second of the clock (R61), and one examination of each search in flight (R41). -/

namespace Sys2Proof.Machine

/-- One second of the clock (R61): the second count advances, and past 59 a new minute comes. -/
def tickSecond (s : State) : State :=
  if s.clock.second < 59 then { s with clock := { s.clock with second := s.clock.second + 1 } } else onNewMinute s

/-- One examination of a port's search. -/
def examinePort (c : Collections) (q : PortState) : PortState := { q with search := q.search.map (fun x => x.examine c) }

/-- One examination of each search in flight (R41). -/
def examineSearches (s : State) : State :=
  if s.running then { s with ports := ⟨examinePort s.rm s.ports.a, examinePort s.rm s.ports.b⟩ } else s

/-- The line under way to the printer goes out whole, in a part that runs (R139). -/
def finishSending (s : State) : State := if s.running then onSlip finishLine s else s

/-- A step with no command waiting. -/
def idleStep (s : State) : State := examineSearches (tickSecond (finishSending s))

end Sys2Proof.Machine
end

