-- ==== Sys2Proof/Machine/Dispatch.lean ====
section
/-! DEFINITION. The commands dispatched to their meanings, one arm per row of spec/opcode_table.json. -/

namespace Sys2Proof.Machine

def exec (i : Instr) (s : State) : Host.Outcome State Fault Refusal :=
  match i with
  | .identify p => Sys2Proof.Machine.execIdentify p s
  | .setAttention p => Sys2Proof.Machine.execSetAttention p s
  | .takeEvent p => Sys2Proof.Machine.execTakeEvent p s
  | .portStatus p => Sys2Proof.Machine.execPortStatus p s
  | .assignStation p => Sys2Proof.Machine.execAssignStation p s
  | .stationStatus p => Sys2Proof.Machine.execStationStatus p s
  | .readScan p => Sys2Proof.Machine.execReadScan p s
  | .keyEntry p => Sys2Proof.Machine.execKeyEntry p s
  | .setStation p => Sys2Proof.Machine.execSetStation p s
  | .openTransaction p => Sys2Proof.Machine.execOpenTransaction p s
  | .closeTransaction p => Sys2Proof.Machine.execCloseTransaction p s
  | .cancelTransaction p => Sys2Proof.Machine.execCancelTransaction p s
  | .overrideBlock p => Sys2Proof.Machine.execOverrideBlock p s
  | .transactionStatus p => Sys2Proof.Machine.execTransactionStatus p s
  | .find p => Sys2Proof.Machine.execFind p s
  | .abortFind p => Sys2Proof.Machine.execAbortFind p s
  | .readEntry p => Sys2Proof.Machine.execReadEntry p s
  | .recordPayment p => Sys2Proof.Machine.execRecordPayment p s
  | .addBlock p => Sys2Proof.Machine.execAddBlock p s
  | .removeBlock p => Sys2Proof.Machine.execRemoveBlock p s
  | .setItemFlag p => Sys2Proof.Machine.execSetItemFlag p s
  | .clearItemFlag p => Sys2Proof.Machine.execClearItemFlag p s
  | .tableCounts p => Sys2Proof.Machine.execTableCounts p s
  | .setClock p => Sys2Proof.Machine.execSetClock p s
  | .readClock p => Sys2Proof.Machine.execReadClock p s
  | .setHours p => Sys2Proof.Machine.execSetHours p s
  | .addClosure p => Sys2Proof.Machine.execAddClosure p s
  | .removeClosure p => Sys2Proof.Machine.execRemoveClosure p s
  | .setPeriod p => Sys2Proof.Machine.execSetPeriod p s
  | .setItemClass p => Sys2Proof.Machine.execSetItemClass p s
  | .setBorrowerClass p => Sys2Proof.Machine.execSetBorrowerClass p s
  | .computeDue p => Sys2Proof.Machine.execComputeDue p s
  | .setThreshold p => Sys2Proof.Machine.execSetThreshold p s
  | .printNote p => Sys2Proof.Machine.execPrintNote p s
  | .reprintLast p => Sys2Proof.Machine.execReprintLast p s
  | .printerStatus p => Sys2Proof.Machine.execPrinterStatus p s
  | .setHeader p => Sys2Proof.Machine.execSetHeader p s
  | .setPrinter p => Sys2Proof.Machine.execSetPrinter p s
  | .startUpload p => Sys2Proof.Machine.execStartUpload p s
  | .stopUpload p => Sys2Proof.Machine.execStopUpload p s
  | .linkStatus p => Sys2Proof.Machine.execLinkStatus p s
  | .setLink p => Sys2Proof.Machine.execSetLink p s
  | .setMode p => Sys2Proof.Machine.execSetMode p s
  | .unknownCommand p b => Sys2Proof.Machine.execUnknownCommand p b s
  | .parameterByteWrite p b => Sys2Proof.Machine.execParameterByteWrite p b s
  | .resultByteRead p => Sys2Proof.Machine.execResultByteRead p s
  | .disregardedAccess p cycle => Sys2Proof.Machine.execDisregardedAccess p cycle s
  | .portReset p => Sys2Proof.Machine.execPortReset p s
  | .acquisitionStart st => Sys2Proof.Machine.execAcquisitionStart st s
  | .acquisitionAbandon st => Sys2Proof.Machine.execAcquisitionAbandon st s
  | .quietReached st => Sys2Proof.Machine.execQuietReached st s
  | .decodeSymbol st ms => Sys2Proof.Machine.execDecodeSymbol st ms s
  | .presenceSample levels => Sys2Proof.Machine.execPresenceSample levels s
  | .patternEnd st => Sys2Proof.Machine.execPatternEnd st s
  | .patronStep st => Sys2Proof.Machine.execPatronStep st s
  | .checkoutStep st => Sys2Proof.Machine.execCheckoutStep st s
  | .returnStep st => Sys2Proof.Machine.execReturnStep st s
  | .renewStep st => Sys2Proof.Machine.execRenewStep st s
  | .secondCard st => Sys2Proof.Machine.execSecondCard st s
  | .ignoredCode st => Sys2Proof.Machine.execIgnoredCode st s
  | .wrongCodeRefusal st => Sys2Proof.Machine.execWrongCodeRefusal st s
  | .inactivityTimeout st => Sys2Proof.Machine.execInactivityTimeout st s
  | .findDone p => Sys2Proof.Machine.execFindDone p s
  | .wakeComplete => Sys2Proof.Machine.execWakeComplete s
  | .linePrinted => Sys2Proof.Machine.execLinePrinted s
  | .paperOut => Sys2Proof.Machine.execPaperOut s
  | .paperRestored => Sys2Proof.Machine.execPaperRestored s
  | .idleTimerExpiry => Sys2Proof.Machine.execIdleTimerExpiry s
  | .settleComplete => Sys2Proof.Machine.execSettleComplete s
  | .newMinute => Sys2Proof.Machine.execNewMinute s
  | .retryExpiry => Sys2Proof.Machine.execRetryExpiry s
  | .gapWon => Sys2Proof.Machine.execGapWon s
  | .noLine => Sys2Proof.Machine.execNoLine s
  | .collision => Sys2Proof.Machine.execCollision s
  | .backoffEnd => Sys2Proof.Machine.execBackoffEnd s
  | .dataFrameSent => Sys2Proof.Machine.execDataFrameSent s
  | .pollSent => Sys2Proof.Machine.execPollSent s
  | .ackFrame frame => Sys2Proof.Machine.execAckFrame frame s
  | .busyFrame frame => Sys2Proof.Machine.execBusyFrame frame s
  | .replyTimeout => Sys2Proof.Machine.execReplyTimeout s
  | .updateFrame frame => Sys2Proof.Machine.execUpdateFrame frame s
  | .broadcastUpdate frame => Sys2Proof.Machine.execBroadcastUpdate frame s
  | .replyDelayEnd => Sys2Proof.Machine.execReplyDelayEnd s
  | .replySent => Sys2Proof.Machine.execReplySent s
  | .replyCollision => Sys2Proof.Machine.execReplyCollision s
  | .endFrame frame => Sys2Proof.Machine.execEndFrame frame s
  | .pfailRise => Sys2Proof.Machine.execPfailRise s
  | .pfailFall => Sys2Proof.Machine.execPfailFall s
  | .resetAssert cut => Sys2Proof.Machine.execResetAssert cut s
  | .powerLoss cut backupKept => Sys2Proof.Machine.execPowerLoss cut backupKept s
  | .start roleA roleB => Sys2Proof.Machine.execStart roleA roleB s
  | .commandCodeTaken p b => Sys2Proof.Machine.execCommandCodeTaken p b s
  | .elementMeasured st ticks => Sys2Proof.Machine.execElementMeasured st ticks s
  | .frameAbandoned cause => Sys2Proof.Machine.execFrameAbandoned cause s
  | .lineActivity => Sys2Proof.Machine.execLineActivity s
  | .gapCommitted => Sys2Proof.Machine.execGapCommitted s
  | .jamEnd => Sys2Proof.Machine.execJamEnd s
  | .randomGeneratorStep => Sys2Proof.Machine.execRandomGeneratorStep s

end Sys2Proof.Machine
end

