-- ==== Sys2Proof/Safety.lean ====
section
/-! DEFINITION. The terms in which claims about the LD-4 are stated: a command that runs, what a port executes and answers, what
a step may touch, and the invariants that the spec gives the part's state. -/

namespace Sys2Proof.Machine

/-! ### Commands at a port -/

/-- The port executes the command of a code with these parameters (R174). -/
structure Executing (s : State) (p : Port) (code : Byte) (params : List Byte) : Prop where
  running : s.running = true
  phase : (s.port p).phase = .executing
  command : (s.port p).command = code :: params

/-- The state with a result placed in a port's result buffer and the port in RESULT (R174). -/
def State.withResult (s : State) (p : Port) (bytes : List Byte) : State :=
  s.putPort p { s.port p with phase := .result, result := bytes }

/-- The port and the command code of a row of TABLE 11-2. -/
def commandOf : Instr → Option (Port × Byte)
  | .identify p => some (p, 0x01#8)
  | .setAttention p => some (p, 0x02#8)
  | .takeEvent p => some (p, 0x03#8)
  | .portStatus p => some (p, 0x04#8)
  | .assignStation p => some (p, 0x10#8)
  | .stationStatus p => some (p, 0x11#8)
  | .readScan p => some (p, 0x12#8)
  | .keyEntry p => some (p, 0x13#8)
  | .setStation p => some (p, 0x14#8)
  | .openTransaction p => some (p, 0x20#8)
  | .closeTransaction p => some (p, 0x21#8)
  | .cancelTransaction p => some (p, 0x22#8)
  | .overrideBlock p => some (p, 0x23#8)
  | .transactionStatus p => some (p, 0x24#8)
  | .find p => some (p, 0x30#8)
  | .abortFind p => some (p, 0x31#8)
  | .readEntry p => some (p, 0x32#8)
  | .recordPayment p => some (p, 0x33#8)
  | .addBlock p => some (p, 0x34#8)
  | .removeBlock p => some (p, 0x35#8)
  | .setItemFlag p => some (p, 0x36#8)
  | .clearItemFlag p => some (p, 0x37#8)
  | .tableCounts p => some (p, 0x38#8)
  | .setClock p => some (p, 0x40#8)
  | .readClock p => some (p, 0x41#8)
  | .setHours p => some (p, 0x42#8)
  | .addClosure p => some (p, 0x43#8)
  | .removeClosure p => some (p, 0x44#8)
  | .setPeriod p => some (p, 0x45#8)
  | .setItemClass p => some (p, 0x46#8)
  | .setBorrowerClass p => some (p, 0x47#8)
  | .computeDue p => some (p, 0x48#8)
  | .setThreshold p => some (p, 0x49#8)
  | .printNote p => some (p, 0x50#8)
  | .reprintLast p => some (p, 0x51#8)
  | .printerStatus p => some (p, 0x52#8)
  | .setHeader p => some (p, 0x53#8)
  | .setPrinter p => some (p, 0x54#8)
  | .startUpload p => some (p, 0x60#8)
  | .stopUpload p => some (p, 0x61#8)
  | .linkStatus p => some (p, 0x62#8)
  | .setLink p => some (p, 0x63#8)
  | .setMode p => some (p, 0x70#8)
  | _ => none

/-! ### Stations and slots as claims name them -/

/-- The number of a station as the parameter byte that names it. -/
def stationByte (st : Station) : Byte := BitVec.ofNat 8 (stationNumber st)

/-- The settings written, with the check word over them (R194). -/
def State.withConfig (s : State) (c : Configuration) : State := { s with config := c, checkWord := checkWordOf c }

/-- A slot that may take a code: the part runs, PFAIL is low, the slot is open, its station has the owner `p`, and `c` is the
oldest of its station's waiting codes (R102). -/
structure Takes (s : State) (st : Station) (p : Port) (c : Code) (rest : List Code) : Prop where
  running : s.running = true
  powerGood : s.pfail = false
  slotOpen : (s.slot st).state.isOpen = true
  owner : s.owner st = some p
  waiting : (s.station st).scans = c :: rest

/-- The state in which the code has left its scan slot and the inactivity timer has restarted (R11, R102, R106). -/
def State.afterTaking (s : State) (st : Station) (rest : List Code) : State :=
  (s.putStation st { s.station st with scans := rest, overflow := false }).putSlot st { s.slot st with
    timer := if (s.stationConfig st).timeout = 0 then none else some (s.stationConfig st).timeout }

/-- ITEM-REFUSED to the owner port with the REFUSE tone (R108). -/
def State.refusedWith (s : State) (st : Station) (p : Port) (c : Code) (r : Refuse) : State :=
  let u := post p ⟨.itemRefused, some st, some c, none, some (.refuse r)⟩ s
  u.putStation st { u.station st with indicator := some .refuse }

/-- SCAN-READY to a port for each of some codes, in order (R12). -/
def State.reporting (s : State) (st : Station) (p : Port) (codes : List Code) : State :=
  codes.foldl (fun u c => post p ⟨.scanReady, some st, some c, none, none⟩ u) s

/-- The elements of a label drawn forward, with narrow elements of `n` ticks, wide ones of `w` and gaps of `g` (TABLE 1-4,
TABLE 1-5). -/
def labelElements (c : Code) (n w g : Nat) : List Nat :=
  [w, n, n, g] ++
    (digits c).flatMap (fun d =>
      [1, 2, 3, 4, 5].map (fun i =>
        if i = (widePairs.getD d (1, 2)).1 ∨ i = (widePairs.getD d (1, 2)).2 then w else n) ++ [g]) ++
    [n, w, w]

/-- The borrower is refused for an entry of the BLOCK LIST or for a balance at or above a nonzero threshold (R46). -/
def State.Barred (s : State) (b : Code) : Prop :=
  (s.blockOf b).isSome = true ∨ (0 < s.config.threshold ∧ s.config.threshold ≤ s.balanceOf b)

/-- The reason that a barred borrower is reported with (R46). -/
def State.barReason (s : State) (b : Code) : BlockReason := ((s.blockOf b).map Block.reason).getD .localFines

/-- The block record that the threshold test calls for when the borrower's balance has become `balance` (R92): BLOCK-SET for an
unlisted borrower at or above a nonzero threshold, BLOCK-CLEAR for one listed LOCAL below it. -/
def State.testCallsFor (s : State) (b : Code) (balance : Nat) : Option RecordKind :=
  let high := decide (0 < s.config.threshold) && decide (s.config.threshold ≤ balance)
  match s.blockOf b with
  | none => if high then some .blockSet else none
  | some x => if x.origin = .localLogic ∧ high = false then some .blockClear else none

/-- The records that the threshold test then writes (R49, R52): none for a BLOCK-SET that finds the list full. -/
def State.blockRecords (s : State) (seq : Nat) (st : Option Station) (p : Port) (b : Code) (balance : Nat) : List Record :=
  match s.testCallsFor b balance with
  | some .blockSet =>
    if s.rm.blocks.length < 1024 then
      [⟨seq, .blockSet, s.clock.day, s.clock.minute, st, p, { localLogic := true }, some b, none, none, none, some 5, false⟩]
    else []
  | some _ =>
    [⟨seq, .blockClear, s.clock.day, s.clock.minute, st, p, { localLogic := true }, some b, none, none, none, none, false⟩]
  | none => []

/-- The BLOCK LIST after the threshold test of a borrower (R49, R52). -/
def BlocksFollowTest (s t : State) (b : Code) (balance : Nat) : Prop :=
  (∀ other, other ≠ b → t.blockOf other = s.blockOf other) ∧
  t.blockOf b =
    match s.testCallsFor b balance with
    | some .blockSet => if s.rm.blocks.length < 1024 then some ⟨b, .localFines, .localLogic, s.clock.day⟩ else none
    | some _ => none
    | none => s.blockOf b

/-- A slot's transaction ended in IDLE, with TRANSACTION-CLOSED and the waiting codes reported (R12, R103). -/
def State.endedAt (s : State) (st : Station) (p : Port) (number : Option Nat) : State :=
  (post p ⟨.transactionClosed, some st, none, number.map .number, none⟩
    (s.putSlot st ⟨.idle, none, false, none, none, false, [], none, none⟩)).reporting st p (s.station st).scans

/-- A slot's transaction closed into CLOSING with its slip at the end of the closing-wait list (R103, R131). -/
def State.closingAt (s : State) (st : Station) (reopen : Option Code) : State :=
  { s.putSlot st { s.slot st with state := .closing, timer := none, reopen := reopen } with
    slip := { s.slip with waiting := s.slip.waiting ++ [(st, composeSlip st s)] } }

/-- PRINTER-FAULT with the number of the slip at the head, to both ports, after an event of `s` that left this state, where that event
brought a slip to a printer READY without paper (R140, R181). That it comes last is the model's choice (log entry 7). -/
def State.toldFault (t s : State) : State :=
  let e : Event := ⟨.printerFault, none, none, (t.slip.queue.head?.bind Slip.number).map .number, none⟩
  if s.slip.printer = .ready ∧ s.slip.paperOut = true ∧ s.slip.queue.length < t.slip.queue.length then post .B e (post .A e t)
  else t

/-- A slot's transaction ended in IDLE, its events going to its station's owner. -/
def State.endedAtOwner (s : State) (st : Station) (number : Option Nat) : State :=
  match s.owner st with
  | some p => s.endedAt st p number
  | none => s.putSlot st ⟨.idle, none, false, none, none, false, [], none, none⟩

/-- One slot as a start of NIGHT or a port reset leaves it (R103, R105, R124, R125, R131): an open one ends without a slip, with its
slip queued, or into CLOSING where the SLIP QUEUE is full; any other stands. -/
def State.slotEnded (s : State) (st : Station) : State :=
  let sl := s.slot st
  if sl.state.isOpen = false then s
  else if sl.draft = [] ∨ sl.slipWanted = false then s.endedAtOwner st none
  else if s.slip.queue.length < 8 then (queueSlip (composeSlip st s) s).endedAtOwner st (some s.nextSlip)
  else s.closingAt st none

/-- The patron step of a borrower code already taken, at a station of the port (R110): the two refusals, and the patron taken as that
of a PATRON-BLOCKED or of a SERVING slot. -/
def State.patronStepAt (u : State) (st : Station) (p : Port) (c : Code) : State :=
  let takenIn (x : SlotState) (e : Event) (sound : Pattern) : State :=
    let v := post p e (u.putSlot st { u.slot st with state := x, patron := some c, patronClass := some (borrowerClassOf c) })
    v.putStation st { v.station st with indicator := some sound }
  if systemOf c ≠ u.config.system then u.refusedWith st p c .foreign
  else if (u.config.borrowerClasses.get (borrowerClassOf c)).loanLimit = 0 then u.refusedWith st p c .classBarred
  else if (u.blockOf c).isSome = true ∨ (0 < u.config.threshold ∧ u.config.threshold ≤ u.balanceOf c) then
    takenIn .patronBlocked ⟨.patronBlocked, some st, some c, none, some (.block (u.barReason c))⟩ .attention
  else takenIn .serving ⟨.patronOk, some st, some c, some (.amount (u.balanceOf c)), none⟩ .accept

/-! ### What a step that writes records tells the terminals -/

/-- The end of a step that has written its records (R38): while the arming is armed and the JOURNAL holds 3,584 records or more,
JOURNAL-HIGH with the record count goes to each STAFF port, and the arming becomes disarmed. -/
def State.endOfStep (u : State) : State :=
  if u.armed = true ∧ 3584 ≤ u.rm.journal.length then
    let e : Event := ⟨.journalHigh, none, none, some (.number u.rm.journal.length), none⟩
    let a := if (u.port .A).role = .staff then post .A e u else u
    { (if (a.port .B).role = .staff then post .B e a else a) with armed := false }
  else u

/-- What the threshold test of a borrower does to the ports (R41, R49, R52): a block that it adds or lifts moves the searches in the
BLOCK LIST, and where it calls for a block and the list is full, BLOCK-LIST-FULL goes to each STAFF port. -/
def State.testedPorts (s : State) (b : Code) (balance : Nat) : State :=
  match s.testCallsFor b balance with
  | some .blockSet =>
    if s.rm.blocks.length < 1024 then moveSearches .blocks (insertedAt (rank Block.key b.toNat s.rm.blocks)) s
    else postStaff ⟨.blockListFull, none, some b, none, none⟩ s
  | some _ => moveSearches .blocks (removedAt (rank Block.key b.toNat s.rm.blocks)) s
  | none => s

/-- A step that leaves `t` has told the terminals and moved the searches as `u` shows, and at its end told JOURNAL-HIGH (R38). -/
def TellsAtEnd (u t : State) : Prop :=
  let w := ({ u with rm := t.rm } : State).endOfStep
  t.armed = w.armed ∧ t.ports = w.ports

/-- The codes of a list, each once, in the order in which they first stand. -/
def eachOnce : List Code → List Code
  | [] => []
  | b :: bs => b :: (eachOnce bs).filter (fun x => x != b)

/-- What the threshold tests of a confirmation do, borrower by borrower, with `n` entries in the BLOCK LIST before them (R49, R92,
R93): for each test that acts its borrower, the kind of its record, and whether that record is written, which a BLOCK-SET that
finds the list full is not. -/
def State.testActs (s : State) (balance : Code → Nat) : Nat → List Code → List (Code × RecordKind × Bool)
  | _, [] => []
  | n, b :: bs =>
    match s.testCallsFor b (balance b) with
    | some .blockSet => (b, .blockSet, decide (n < 1024)) :: s.testActs balance (if n < 1024 then n + 1 else n) bs
    | some k => (b, k, true) :: s.testActs balance (n - 1) bs
    | none => s.testActs balance n bs

/-- What the acts of a confirmation's tests do to the searches in the BLOCK LIST, one after another, with the keys of its entries before
them (R41): a block added inserts its entry, and one lifted removes it. -/
def State.actsMoveSearches : List Nat → List (Code × RecordKind × Bool) → State → State
  | _, [], u => u
  | keys, (b, k, written) :: acts, u =>
    let i := keys.countP (fun x => decide (x < b.toNat))
    if written = false then actsMoveSearches keys acts u
    else if k = .blockSet then actsMoveSearches (b.toNat :: keys) acts (moveSearches .blocks (insertedAt i) u)
    else actsMoveSearches (keys.filter (fun x => x != b.toNat)) acts (moveSearches .blocks (removedAt i) u)

/-- The BALANCE TABLE after a FINE or PAYMENT of a borrower that changes an amount as `f` does (R90): the borrower's entry changed in its
place, or a new one at the end of the creation order where there is room; an UNTRACKED record changes nothing. -/
def State.balancesCharged (s : State) (b : Code) (f : Nat → Nat) : List Balance :=
  if (s.balanceEntry b).isSome then s.rm.balances.map (fun x => if x.borrower = b then ⟨b, f x.amount⟩ else x)
  else if s.rm.balances.length < 256 then s.rm.balances ++ [⟨b, f 0⟩]
  else s.rm.balances

/-! ### Upload runs -/

/-- What a run that fails for a reason other than STOPPED leaves (R33, R161, R163): every SENT record PENDING, UPLOAD-FAILED at each
STAFF port, and the link without frame, gap, timer or reply, ARMED with the retry timer started while the window is open and IDLE
otherwise. -/
def State.failedRun (s : State) (r : FailReason) : State :=
  { postStaff ⟨.uploadFailed, none, none, none, some (.fail r)⟩ s with
    rm := { s.rm with journal := s.rm.journal.map (fun x => { x with sent := false }) },
    link := { s.link with
      run := if s.link.windowOpen then .armed else .idle, outcome := .failed r, frame := .none, seek := .off,
      replyTimer := false, reply := none, retry := if s.link.windowOpen then some s.config.retryInterval else none } }

/-! ### The calendar and the settings -/

/-- A run begun (R153): in CONTEND with its counts at 0 and its retry timer stopped, DATA in flight while a record is PENDING and POLL
otherwise, the gap sought from the start. -/
def State.begun (s : State) : State :=
  { s with link := { s.link with
      run := .contend, retry := none, attempts := 0, timeouts := 0, confirmed := 0, applied := 0, seek := .gap 0,
      frame := if ∃ r ∈ s.rm.journal, r.sent = false then .data none else .poll } }

/-- An instant handed on to mode control and then to the link (R67), which judge the window from it: not open while the clock is UNSET
(R162, R188). Mode control (R188): where its flag stands, nothing; at a boundary
the hold is cleared and the mode changed. The link (R162): where its flag stands, nothing; a window start begins a run from IDLE, a
window end takes ARMED to IDLE and stops the retry timer, and either else moves the flag alone. -/
def State.handedOn (s : State) : State :=
  let isOpen := !s.clock.unset && inWindow s.config.windowStart s.config.windowEnd s.clock.minute
  let u :=
    if isOpen = s.modeWindow then s
    else changeMode (if isOpen then .night else .day) { s with modeWindow := isOpen, modeHold := false }
  let v : State := { u with link := { u.link with windowOpen := isOpen } }
  if isOpen = s.link.windowOpen then u
  else if isOpen = true ∧ s.link.run = .idle then v.begun
  else if isOpen = false ∧ s.link.run = .armed then { v with link := { v.link with run := .idle, retry := none } }
  else v

/-- What a clock setting leaves (R62, R64, R66, R67): the clock at the instant with UNSET clear, the closure list purged on a new day
or, while PFAIL is high, the purge waiting, and the instant handed on. -/
def State.clockSetTo (s : State) (day minute : Nat) : State :=
  ({ s with
    clock := ⟨day, minute, 0, false⟩,
    rm := { s.rm with
      closures := if day ≠ s.clock.day ∧ s.pfail = false then s.rm.closures.filter (fun c => decide (day - c ≤ 120))
        else s.rm.closures },
    purgeWaits := s.purgeWaits || (decide (day ≠ s.clock.day) && s.pfail) } : State).handedOn

/-- A minute of the calendar, counted from day 0, is a minute of opening hours (R68). -/
def openMinute (cfg : Configuration) (closures : List Nat) (k : Nat) : Bool :=
  isOpenDay cfg closures (k / 1440) && decide ((hoursOf cfg (k / 1440)).openAt ≤ k % 1440)
    && decide (k % 1440 < (hoursOf cfg (k / 1440)).closeAt)

/-- The minutes of opening hours from one minute of the calendar up to, not including, another. -/
def openMinutes (cfg : Configuration) (closures : List Nat) (first upTo : Nat) : Nat :=
  (List.range' first (upTo - first)).countP (openMinute cfg closures)

/-- Every setting lies in the range that its command gives it (R19, R69, R73 to R75, R94, R137, R167). -/
structure SettingsInRange (c : Configuration) : Prop where
  stations : ∀ st, (c.stations.get st).repeatWindow ≤ 5000 ∧ (c.stations.get st).timeout ≤ 600
  hours : ∀ w, (c.hours.get w).openAt ≤ (c.hours.get w).closeAt ∧ (c.hours.get w).closeAt ≤ 1440
  itemClasses : ∀ ic, (c.itemClasses.get ic).grace ≤ 15 ∧ (c.itemClasses.get ic).rate ≤ 2000 ∧
    (c.itemClasses.get ic).cap ≤ 65000 ∧ (c.itemClasses.get ic).maxRenewals ≤ 15
  periods : ∀ ic bc, periodOf c ic bc ≤ 255 ∧ ((c.itemClasses.get ic).kind = .hour → periodOf c ic bc ≤ 72)
  borrowerClasses : ∀ bc, (c.borrowerClasses.get bc).loanLimit ≤ 255 ∧
    ∀ l, (c.borrowerClasses.get bc).termLimit = some l → l < 65535
  threshold : c.threshold ≤ 999999
  idleTime : c.idleTime = 0 ∨ (5 ≤ c.idleTime ∧ c.idleTime ≤ 600)
  address : 1 ≤ c.address ∧ c.address ≤ 254
  system : ∀ k, k < 4 → c.system.toNat / 16 ^ k % 16 ≤ 9
  window : c.windowStart ≤ 1439 ∧ c.windowEnd ≤ 1439
  retryInterval : 1 ≤ c.retryInterval ∧ c.retryInterval ≤ 120

/-! ### What a step leaves as it was -/

/-- A record but for its upload state (R33). -/
def Record.content (r : Record) : Record := { r with sent := false }

/-- The record-memory collections but for the upload state of the records (R35). -/
def Collections.content (c : Collections) : Collections := { c with journal := c.journal.map Record.content }

/-! ### Invariants -/

/-- The clock stands within the calendar (R61). -/
def Clock.Legal (c : Clock) : Prop := c.day ≤ 65535 ∧ c.minute ≤ 1439 ∧ c.second ≤ 59

/-- Keys strictly rise: no two entries share one, and the entries stand in ascending order (R24, R45, R70). -/
def Rising {α : Type} (key : α → Nat) (l : List α) : Prop := (l.map key).Pairwise (· < ·)

/-- The collections keep their order and their capacities (R24, R31, R45, R55, R70, R89). -/
structure Collections.Canonical (c : Collections) : Prop where
  journal : c.journal.length ≤ 4096
  loans : Rising Loan.key c.loans ∧ c.loans.length ≤ 8192
  blocks : Rising Block.key c.blocks ∧ c.blocks.length ≤ 1024
  flags : Rising FlagEntry.key c.flags ∧ c.flags.length ≤ 512
  balances : (c.balances.map Balance.borrower).Nodup ∧ c.balances.length ≤ 256
  closures : Rising id c.closures ∧ c.closures.length ≤ 64

/-- The collections, and the step that a complete commit area holds, are canonical. -/
def State.Canonical (s : State) : Prop :=
  s.rm.Canonical ∧ ∀ image, s.commit = .complete image → image.Canonical

/-- Sequence numbers of the journal are consecutive modulo 65,536, up to the next sequence (R32). -/
def Collections.Numbered (c : Collections) : Prop :=
  c.nextSeq < 65536 ∧
    ∀ i r, c.journal[i]? = some r → (r.seq + (c.journal.length - i)) % 65536 = c.nextSeq

/-- The collections agree with one another and within their entries: the BALANCE TABLE with the journal (R89), a loan's due instant with
its checkout instant, both within the calendar (R24), and a reserving borrower with the flag RESERVED (R55). -/
structure Collections.Sound (c : Collections) : Prop where
  balances : ∀ b, c.balances.find? (fun x => x.borrower == b) =
    if ∃ r ∈ c.journal, r.isTrackedOf b = true then some ⟨b, foldBalance b c.journal⟩ else none
  loans : ∀ l ∈ c.loans, l.outDay ≤ 65535 ∧ l.outMinute ≤ 1439 ∧
    l.outDay * 1440 + l.outMinute < l.dueDay * 1440 + l.dueMinute.getD 1439
  flags : ∀ f ∈ c.flags, f.reserver.isSome = true ↔ f.flag = .reserved

/-- The collections, and the step that a complete commit area holds, are sound. -/
def State.Sound (s : State) : Prop := s.rm.Sound ∧ ∀ image, s.commit = .complete image → image.Sound

/-- The journal is numbered, and so is the step that a complete commit area holds. -/
def State.Numbered (s : State) : Prop := s.rm.Numbered ∧ ∀ image, s.commit = .complete image → image.Numbered

/-- The SENT records are the oldest of the journal, at most eight, and there are some only in SEND-DATA or AWAIT-ACK (R33); the jam
characters of an abandoned reply are sent only in SEND-REPLY (R159). -/
def State.SentFirst (s : State) : Prop :=
  (∃ n, n ≤ 8 ∧ (∀ i r, s.rm.journal[i]? = some r → (r.sent = true ↔ i < n)) ∧
    (0 < n → s.link.run = .sendData ∨ s.link.run = .awaitAck)) ∧
  (s.link.jam = some .reply → s.link.run = .sendReply)

/-- In NIGHT every decoder is DISABLED, every slot is IDLE or CLOSING, and none will reopen (R22, R124). -/
def State.NightClosed (s : State) : Prop :=
  s.mode = .night → ∀ st, (s.station st).decoder = .disabled ∧ (s.slot st).reopen = none ∧ (s.slot st).state.isOpen = false

/-- A slot is not IDLE only while its station has an owner (R99). -/
def State.Owned (s : State) : Prop := ∀ st, (s.slot st).state ≠ .idle → s.owner st ≠ none

/-- The closing-wait list holds each CLOSING slot once, and no other (R131). -/
def State.WaitsMatch (s : State) : Prop :=
  (s.slip.waiting.map Prod.fst).Nodup ∧ ∀ st, st ∈ s.slip.waiting.map Prod.fst ↔ (s.slot st).state = .closing

/-- Every queue of the working memory keeps its capacity (1.5, R113, R130, R182). -/
structure State.Bounded (s : State) : Prop where
  events : ∀ p, (s.port p).events.length ≤ 8 ∧ (s.port p).lost ≤ 255
  scans : ∀ st, (s.station st).scans.length ≤ 2
  lines : ∀ st, (s.slot st).draft.length ≤ 32
  slips : s.slip.queue.length ≤ 8

/-- A port holds result bytes exactly in RESULT (TABLE 9-2, R175). -/
def State.ResultsMatch (s : State) : Prop := ∀ p, (s.port p).phase = .result ↔ (s.port p).result ≠ []

/-- A property that every step keeps. -/
def KeptByStep (inv : State → Prop) : Prop := ∀ s t, inv s → step s = .next t → inv t

end Sys2Proof.Machine
end

