-- ==== Sys2Proof/Certificates/Slice0/Obligations.lean ====
section
/-! DEFINITION. The statements for the provers. Each names the rules of spec/ it formalises; OBLIGATIONS.json lists them. A row of
the command table is stated at a port that executes it (`Executing`); the other rows are stated at the state in which their
occasion arises. Conclusions of the form `exec c s = .next t` give the whole next state, so that what the command leaves as it
was is part of the statement. -/

open Sys2Proof Sys2Proof.Machine

/-! ### The queue of commands -/

/-- A step runs the command at the front of the queue, with the rest of the queue left to wait. With an empty queue the model's own choice
(log entries 4 and 15) is what the spec gives the printer line, the clock and the searches in the background: the line under way to the
printer, of a slip or of the feed, is sent with its line end (R139), in a part that runs and in PRINTING alone; one second of the clock
passes (R61), the second that follows a count of 59 being the new minute; and then comes one examination of each search in flight
(R41), which moves the position past an entry that does not match and leaves it at one that does, at the end of the table, and in a
stopped part. -/
def Obligations.StepRunsFrontCommand : Prop :=
  (∀ (c : Instr) (s : State) (rest : List Instr), s.pending = c :: rest → step s = exec c { s with pending := rest }) ∧
  (∀ (s u : State), s.pending = [] →
      let sent := if s.running = true ∧ s.slip.printer = .printing then { s with slip := { s.slip with lineSent := true } } else s
      (s.clock.second < 59 → u = { sent with clock := { s.clock with second := s.clock.second + 1 } }) →
      (59 ≤ s.clock.second → exec .newMinute sent = .next u) →
      ∃ t, step s = .next t ∧ t = { u with ports := t.ports } ∧
        ∀ p, t.port p = { u.port p with search := (t.port p).search } ∧
          ((u.port p).search = none → (t.port p).search = none) ∧
          (∀ x, (u.port p).search = some x →
            let here := (u.rm.fieldCodes x.table x.field)[x.position]?
            (u.running = true → (∃ f, here = some f ∧ fieldMatches x.pattern f = false) →
              (t.port p).search = some { x with position := x.position + 1 }) ∧
            (u.running = false ∨ (∀ f, here = some f → fieldMatches x.pattern f = true) → (t.port p).search = some x)))

/-- Every command runs in every state, and leaves the queue of waiting commands as it was: no row of the table is refused, and
none faults (log entry 2). -/
def Obligations.EveryCommandRunsAndKeepsTheQueue : Prop :=
  ∀ (c : Instr) (s : State), ∃ t, exec c s = .next t ∧ t.pending = s.pending

/-! ### Starts, reset and loss of power -/

/-- A cold start lays out record memory afresh (R191, R192): whatever the record memory held, every field but the inputs and the
waiting commands becomes the one given here, and STARTED, carrying COLD, stands alone in each queue. That STARTED is placed in the
start's own event, before any status read, is the model's choice (log entry 35). The fields that the model adds
to those of the spec (what the link seeks, jams, answers and sends, the printer's lines and bytes sent, the byte a port returned)
take the model's own values, which no rule gives (log entries 15, 16 and 31); that no purge of the closures waits is the model's as well
(log entry 12). -/
def Obligations.ColdStartLaysOutRecordMemory : Prop :=
  (∀ (roleA roleB : Role) (s : State), s.running = false → s.pfail = false →
    (s.marker = false ∨ (s.resetHeld = true ∧ roleA = .kiosk ∧ roleB = .kiosk)) →
    ∃ t, exec (.start roleA roleB) s = .next t ∧
      t.running = true ∧ t.mainPower = true ∧ t.resetHeld = false ∧ t.marker = true ∧ t.commit = .empty ∧
      t.rm = ⟨[], [], [], [], [], [], 0, none, none⟩ ∧ t.config = Configuration.factory ∧
      t.checkWord = checkWordOf Configuration.factory ∧ t.nextSlip = 1 ∧ t.clock = ⟨0, 0, 0, true⟩ ∧ t.purgeWaits = false ∧
      t.mode = .day ∧ t.modeHold = false ∧ t.modeWindow = false ∧ t.armed = true ∧
      (∀ st, t.station st = ⟨false, none, .disabled, none, [], false, none⟩ ∧
        t.slot st = ⟨.idle, none, false, none, none, false, [], none, none⟩ ∧ t.slip.lastSlip.get st = none) ∧
      t.slip = { queue := [], waiting := [], lastSlip := t.slip.lastSlip, printer := .asleep, feedOwed := false,
                 idleTimer := none, feedLeft := 0, linesDone := 0, lineSent := false, paperOut := s.slip.paperOut,
                 output := [0x0F#8] } ∧
      t.link = { run := .idle, windowOpen := false, frame := .none, attempts := 0, timeouts := 0, confirmed := 0, applied := 0,
                 replyTimer := false, retry := none, random := 257#16, outcome := .none, seek := .off, jam := none,
                 reply := none, sending := [] } ∧
      (∀ p, t.port p = { role := (if p = .A then roleA else roleB), phase := .commandIdle, command := [], result := [],
                         ignored := false, events := [⟨.started, none, none, none, some (.start .cold)⟩], lost := 0,
                         attention := false, search := none, readOut := none }) ∧
      t.pfail = false ∧ t.pending = s.pending)

/-- A warm start (R21, R36, R38, R39, R126, R143, R152, R168, R187, R193): the commit area is dealt with, every SENT record returns to
PENDING, the settings are kept when the check word agrees and are all written at their defaults when it does not, the clock
is kept, and every other field but the inputs and the waiting commands becomes the one given here: stations, slots, SLIP UNIT, link
and ports as after every start, any transmission cut off, and the window judged from the clock. The fields that the model adds to
those of the spec take the model's own values (log entries 15, 16 and 31), and no purge of the closures waits (log entry 12). That STARTED
and JOURNAL-HIGH are placed in the start's own event is the model's choice (log entry 35). -/
def Obligations.WarmStartKeepsRecordMemory : Prop :=
  ∀ (roleA roleB : Role) (s : State), s.running = false → s.pfail = false → s.marker = true →
    (s.resetHeld = true → roleA = .kiosk → roleB = .staff) →
    ∃ t, exec (.start roleA roleB) s = .next t ∧
      (∀ image, s.commit = .complete image → t.rm.content = image.content) ∧
      ((∀ image, s.commit ≠ .complete image) → t.rm.content = s.rm.content) ∧
      (∀ r ∈ t.rm.journal, r.sent = false) ∧ t.commit = .empty ∧ t.nextSlip = s.nextSlip ∧ t.clock = s.clock ∧
      t.marker = true ∧
      (checkWordOf s.config = s.checkWord → t.config = s.config ∧ t.checkWord = s.checkWord) ∧
      (checkWordOf s.config ≠ s.checkWord →
        t.config = Configuration.factory ∧ t.checkWord = checkWordOf Configuration.factory) ∧
      t.running = true ∧ t.mainPower = true ∧ t.resetHeld = false ∧
      t.modeHold = false ∧ t.modeWindow = t.windowJudged ∧ t.mode = (if t.windowJudged then .night else .day) ∧
      t.link = { run := if t.windowJudged then .armed else .idle, windowOpen := t.windowJudged, frame := .none, attempts := 0,
                 timeouts := 0, confirmed := 0, applied := 0, replyTimer := false,
                 retry := if t.windowJudged then some t.config.retryInterval else none,
                 random := randomSeed t.config.address t.clock.minute, outcome := .none, seek := .off, jam := none,
                 reply := none, sending := [] } ∧
      (∀ st, t.station st = ⟨false, none, .disabled, none, [], false, none⟩ ∧
        t.slot st = ⟨.idle, none, false, none, none, false, [], none, none⟩ ∧ t.slip.lastSlip.get st = none) ∧
      t.slip = { queue := [], waiting := [], lastSlip := t.slip.lastSlip, printer := .asleep, feedOwed := false,
                 idleTimer := none, feedLeft := 0, linesDone := 0, lineSent := false, paperOut := s.slip.paperOut,
                 output := [0x0F#8] } ∧
      t.armed = decide (t.rm.journal.length < 3584) ∧
      (∀ p,
        let role := if p = .A then roleA else roleB
        t.port p = { role := role, phase := .commandIdle, command := [], result := [], ignored := false,
                     events :=
                       ⟨.started, none, none, none,
                         some (.start (if checkWordOf s.config = s.checkWord then .warm else .warmConfigLost))⟩ ::
                       (if 3584 ≤ t.rm.journal.length ∧ role = .staff then
                         [⟨.journalHigh, none, none, some (.number t.rm.journal.length), none⟩] else []),
                     lost := 0, attention := false, search := none, readOut := none }) ∧
      t.purgeWaits = false ∧ t.pfail = false ∧ t.pending = s.pending

/-- A record-memory step that a reset cuts off is whole or lost after the next warm start (R35, R36): whole when its commit
area was marked complete, lost when it was not; the operand of the row says where it cuts, which is the model's form (log entry 9). A step
that the fall of PFAIL began, such as a purge that had waited (R37, R62), finds PFAIL low when it is cut off, so the start that follows is
made (R191). A settings write that a loss of power cuts off between the setting and its check word
(R194): the next start is warm and compares the two (R193); where they differ it restores every default, with WARM-CONFIG-LOST, and
where they agree it keeps the settings as they then stand; the collections, the clock and the next slip number stand in either
case. They differ whenever ASSIGN STATION, SET PERIOD or SET PRINTER has changed its one setting, whatever the part's internal
order of the settings: a change within two bytes always changes the computation of R146 (log entry 1). -/
def Obligations.CutOffStepIsWholeOrLost : Prop :=
  (∀ (u : UnderWay) (s t : State) (roleA : Role), s.running = true → s.pfail = false ∨ u = .pfailFall → s.marker = true →
    (exec (.resetAssert (.complete u)) s = .next t →
      ∃ t', exec (.start roleA .staff) t = .next t' ∧ t'.running = true ∧ t'.pfail = false ∧
        t'.clock = (runUnderWay u s).clock ∧ t'.rm.content = (runUnderWay u s).rm.content) ∧
    (exec (.resetAssert (.filling u)) s = .next t →
      ∃ t', exec (.start roleA .staff) t = .next t' ∧ t'.running = true ∧ t'.pfail = false ∧
        t'.clock = (runUnderWay u s).clock ∧ t'.rm.content = s.rm.content)) ∧
  (∀ (p : Port) (s : State) (roleA : Role), s.running = true → s.pfail = false → s.marker = true → s.commit = .empty →
    s.checkWord = checkWordOf s.config →
    let torn := (runBuffered p s).config
    (∃ t t', exec (.powerLoss (.settingTorn p) true) s = .next t ∧ exec (.start roleA .staff) t = .next t' ∧
      t'.rm.content = s.rm.content ∧ t'.clock = s.clock ∧ t'.nextSlip = s.nextSlip ∧
      (checkWordOf torn = checkWordOf s.config → t'.config = torn) ∧
      (checkWordOf torn ≠ checkWordOf s.config →
        t'.config = Configuration.factory ∧ t'.checkWord = checkWordOf Configuration.factory ∧
          ∀ q, (t'.port q).events.head? = some ⟨.started, none, none, none, some (.start .warmConfigLost)⟩)) ∧
    (∀ code params, Executing s p code params → code ∈ [0x10#8, 0x45#8, 0x54#8] → SettingsInRange s.config →
      torn ≠ s.config → checkWordOf torn ≠ checkWordOf s.config))

/-- Reset, loss of power and PFAIL between steps. Reset and loss of power (R191): the part does nothing from then on, its indicators
are silent and nothing is sent, and the record memory, the settings and the clock stand. While it is stopped no port access, no
command, and no event of a station, a slot, the printer or the link changes anything; the rows that still act are those of the
paper sensor's level, the new minute, PFAIL, the reset pin, main power and the start. PFAIL (R37, R62, R111): its rise changes
nothing else; its fall lets a waiting purge be made, and takes a reopen-pending code that waits in AWAIT-PATRON as a patron step,
with the inactivity timer restarted as for any code taken (log entry 24); it changes nothing else where no such code waits. R191
keeps record memory and the clock by the backup supply alone: that a loss of power without it makes the marker invalid and leaves
their fields to stand until the start is the model's choice (log entry 22). -/
def Obligations.SupplyAndResetEvents : Prop :=
  (∀ (s : State) (backupKept : Bool),
      let stopped : State :=
        { s with
          running := false,
          stations := ⟨{ s.stations.s0 with indicator := none }, { s.stations.s1 with indicator := none },
            { s.stations.s2 with indicator := none }, { s.stations.s3 with indicator := none }⟩,
          link := { s.link with sending := [] } }
      exec (.resetAssert .between) s = .next { stopped with resetHeld := true } ∧
      exec (.powerLoss .between backupKept) s =
        .next { stopped with mainPower := false, marker := s.marker && backupKept } ∧
      (∀ p, { stopped with resetHeld := true }.attentionLine p = false)) ∧
  (∀ (c : Instr) (s : State), s.running = false →
      (c ∉ [Instr.paperOut, .paperRestored, .newMinute, .pfailRise, .pfailFall] → (∀ cut, c ≠ .resetAssert cut) →
        (∀ cut kept, c ≠ .powerLoss cut kept) → (∀ a b, c ≠ .start a b) → exec c s = .next s) ∧
      exec .paperOut s = .next { s with slip := { s.slip with paperOut := true } } ∧
      exec .paperRestored s = .next { s with slip := { s.slip with paperOut := false } } ∧
      exec .pfailFall s = .next { s with pfail := false }) ∧
  (∀ (s : State),
      exec .pfailRise s = .next { s with pfail := true } ∧
      (s.running = true →
        let u : State := { s with
          pfail := false, purgeWaits := false,
          rm := { s.rm with
            closures := if s.purgeWaits then s.rm.closures.filter (fun c => decide (s.clock.day - c ≤ 120)) else s.rm.closures } }
        ((∀ st, (s.slot st).state = .awaitPatron → (s.slot st).reopen = none) → exec .pfailFall s = .next u) ∧
        (∀ st p c, (s.slot st).state = .awaitPatron → (s.slot st).reopen = some c → s.owner st = some p →
          (∀ st', st' ≠ st → (s.slot st').state = .awaitPatron → (s.slot st').reopen = none) →
          exec .pfailFall s = .next ((u.putSlot st { s.slot st with
            reopen := none,
            timer := if (s.stationConfig st).timeout = 0 then none else some (s.stationConfig st).timeout }).patronStepAt st p
              c))))

/-- What holds right after reset: every invariant of this file. -/
def Obligations.ResetMeetsEveryInvariant : Prop :=
  State.reset.Canonical ∧ State.reset.Numbered ∧ State.reset.Sound ∧ State.reset.SentFirst ∧ State.reset.NightClosed ∧ State.reset.Owned ∧
    State.reset.WaitsMatch ∧ State.reset.Bounded ∧ State.reset.ResultsMatch ∧ State.reset.clock.Legal ∧
    State.reset.link.random ≠ 0 ∧ SettingsInRange State.reset.config

/-! ### The terminal ports -/

/-- Accesses of a port. A bus cycle (R170, R171): without the chip select, or with both strobes or neither, it is no access and changes
nothing; a read of the status byte and a write of any byte but 5AH to it change nothing, not even IGNORED, and a write of 5AH to it
is the port reset. The data byte (R172, R173, R175, R176): in COMMAND-IDLE a write is taken as a command code: IGNORED clears, the
command buffer holds the code, and a code of the table goes on to its parameters, or to EXECUTING where it has none, while any other
is answered with UNKNOWN-COMMAND at once. In COMMAND-PARAMS a write is the next parameter, and the one that completes the count of
the command, which for PRINT NOTE follows its line count, takes the port to EXECUTING. In RESULT a read takes the next result byte,
and the last one returns the port to COMMAND-IDLE. An access that its phase does not take sets IGNORED, and a read of it returns FFH.
A command written so byte by byte stands in EXECUTING with all of its bytes in the command buffer, nothing but its port changed. That
the row of a disregarded access, given with a cycle that is an access after all, has the effect of the row of that access is the model's
choice (log entry 20). -/
def Obligations.DataByteAccesses : Prop :=
  (∀ (p : Port) (c : BusCycle) (s : State),
      (c.chipSelect = false ∨ c.readStrobe = c.writeStrobe → exec (.disregardedAccess p c) s = .next s) ∧
      (c.chipSelect = true → c.readStrobe = true → c.writeStrobe = false →
        exec (.disregardedAccess p c) s = if c.addressHigh then exec (.resultByteRead p) s else .next s) ∧
      (c.chipSelect = true → c.readStrobe = false → c.writeStrobe = true →
        exec (.disregardedAccess p c) s =
          if c.addressHigh then exec (.parameterByteWrite p c.data) s
          else if c.data = 0x5A#8 then exec (.portReset p) s
          else .next s)) ∧
  (∀ (p : Port) (b : Byte) (s : State), s.running = true → (s.port p).phase = .commandIdle →
      (∀ n, fixedParameters b = some n →
        exec (.commandCodeTaken p b) s = .next (s.putPort p { s.port p with
          ignored := false, command := [b], phase := if n = 0 then .executing else .commandParams })) ∧
      (fixedParameters b = none →
        exec (.unknownCommand p b) s = .next (s.putPort p { s.port p with
          ignored := false, command := [b], result := [0x01#8], phase := .result }))) ∧
  (∀ (p : Port) (b code : Byte) (params : List Byte) (s : State), s.running = true →
      (s.port p).phase = .commandParams → (s.port p).command = code :: params →
      let wanted :=
        if code = 0x50#8 then
          (let lines := (params ++ [b]).head!.toNat
           if 1 ≤ lines ∧ lines ≤ 6 then 1 + 32 * lines else 1)
        else (fixedParameters code).getD 0
      exec (.parameterByteWrite p b) s = .next (s.putPort p { s.port p with
        command := code :: (params ++ [b]),
        phase := if wanted ≤ params.length + 1 then .executing else .commandParams })) ∧
  (∀ (p : Port) (b : Byte) (rest : List Byte) (s : State), s.running = true →
      ((s.port p).phase = .result → (s.port p).result = b :: rest →
        exec (.resultByteRead p) s = .next (s.putPort p { s.port p with
          readOut := some b, result := rest, phase := if rest = [] then .commandIdle else .result })) ∧
      ((s.port p).phase ≠ .result →
        exec (.disregardedAccess p ⟨true, true, false, true, b⟩) s =
          .next (s.putPort p { s.port p with ignored := true, readOut := some 0xFF#8 })) ∧
      ((s.port p).phase = .executing ∨ (s.port p).phase = .result →
        exec (.disregardedAccess p ⟨true, false, true, true, b⟩) s =
          .next (s.putPort p { s.port p with ignored := true }))) ∧
  (∀ (p : Port) (code : Byte) (params : List Byte) (rest : List Instr) (s : State), s.running = true →
      (s.port p).phase = .commandIdle → code ≠ 0x50#8 → fixedParameters code = some params.length →
      s.pending = .commandCodeTaken p code :: (params.map (Instr.parameterByteWrite p) ++ rest) →
      ∃ t, Sys2Proof.core.run (1 + params.length) s = .next t ∧ Executing t p code params ∧ t.pending = rest ∧
        t = { s with pending := rest }.putPort p (t.port p))

/-- A command of the STAFF-only set given at a KIOSK port is refused with NOT-PERMITTED before every check of its own rule, and
changes nothing (R180); OVERRIDE BLOCK has its own order of checks. -/
def Obligations.StaffOnlyRefusedAtKiosk : Prop :=
  ∀ (i : Instr) (p : Port) (code : Byte) (params : List Byte) (s : State), commandOf i = some (p, code) →
    code ∈ [0x10#8, 0x14#8, 0x33#8, 0x34#8, 0x35#8, 0x36#8, 0x37#8, 0x40#8, 0x42#8, 0x43#8, 0x44#8, 0x45#8, 0x46#8, 0x47#8,
      0x49#8, 0x53#8, 0x54#8, 0x60#8, 0x61#8, 0x63#8, 0x70#8] →
    Executing s p code params → (s.port p).role = .kiosk → exec i s = .next (s.withResult p [0x02#8])

/-- A command whose completion code is not OK changes nothing, and its result is that code alone (R174, R175). -/
def Obligations.RefusedCommandChangesNothing : Prop :=
  ∀ (i : Instr) (p : Port) (code x : Byte) (params : List Byte) (s t : State), commandOf i = some (p, code) →
    Executing s p code params → exec i s = .next t → (t.port p).result.head? = some x → x ≠ 0x00#8 →
    t = s.withResult p [x]

/-- A port reset (R125, R178): the port returns to COMMAND-IDLE with empty buffers, an empty queue and no search, keeping its role and
attention enable, and the reopen-pending codes of its stations' slots are cleared; then the open ones among those slots end one after
another in ascending station order, without a slip, with their slip queued, or into CLOSING where the SLIP QUEUE is full, and their
events go to the emptied queue. Where a slip finds the printer READY without paper, PRINTER-FAULT comes last: the model's choice (log
entry 7). Nothing else changes: the other port's command, the other slots, the record memory, the settings, the clock and the link are
left as they were. A command in EXECUTING has its effect first. -/
def Obligations.PortResetEndsThePortsWork : Prop :=
  ∀ (p : Port) (s : State), s.running = true →
    ((s.port p).phase = .executing → exec (.portReset p) s = exec (.portReset p) (runBuffered p s)) ∧
    ((s.port p).phase ≠ .executing →
      let cleared := fun st => if s.owner st = some p then { s.slot st with reopen := none } else s.slot st
      let u := { s.putPort p { s.port p with
          phase := .commandIdle, command := [], result := [], ignored := false, events := [], lost := 0, search := none } with
        slots := ⟨cleared .s0, cleared .s1, cleared .s2, cleared .s3⟩ }
      let owned := ([.s0, .s1, .s2, .s3] : List Station).filter (fun st => decide (s.owner st = some p))
      ∃ t, exec (.portReset p) s = .next t ∧ t = (owned.foldl State.slotEnded u).toldFault s ∧
        (∀ q, (t.port q).role = (s.port q).role ∧ (t.port q).attention = (s.port q).attention ∧
          (t.port q).phase = (if q = p then .commandIdle else (s.port q).phase) ∧
          (t.port q).command = (if q = p then [] else (s.port q).command) ∧
          (t.port q).result = (if q = p then [] else (s.port q).result) ∧
          (t.port q).ignored = (if q = p then false else (s.port q).ignored) ∧
          (t.port q).search = (if q = p then none else (s.port q).search)) ∧
        (∀ st, s.owner st = some p → (t.slot st).reopen = none ∧ (t.slot st).state.isOpen = false) ∧
        (∀ st, s.owner st ≠ some p → t.slot st = s.slot st) ∧ t.stations = s.stations ∧ t.rm = s.rm ∧
        t.config = s.config ∧ t.clock = s.clock ∧ t.link = s.link ∧ t.mode = s.mode ∧
        ((∀ st, s.owner st = some p → (s.slot st).state.isOpen = false) →
          t = u ∧ ∀ st, s.owner st = some p → t.slot st = { s.slot st with reopen := none }))

/-- What a port shows of itself. The status byte, bit by bit (R171, TABLE 9-2, TABLE 11-1), and the attention line of a part that runs
(R183). IDENTIFY (R186), and PORT STATUS (R185), which returns the number of events and the lost count, at most 8 and 255 in every state
that keeps the invariants below, and clears the lost count, so that an event dropped after it counts as the first. -/
def Obligations.StatusByteAndPortReports : Prop :=
  (∀ (p : Port) (s : State),
      (s.statusByte p).getLsbD 7 = decide ((s.port p).phase ≠ .executing) ∧
      (s.statusByte p).getLsbD 6 = decide ((s.port p).phase = .result) ∧
      (s.statusByte p).getLsbD 5 = decide ((s.port p).phase = .executing) ∧
      (s.statusByte p).getLsbD 4 = !(s.port p).events.isEmpty ∧
      (s.statusByte p).getLsbD 3 = (s.port p).search.isSome ∧
      (s.statusByte p).getLsbD 2 = (s.port p).ignored ∧
      (s.statusByte p).getLsbD 1 = decide (s.mode = .night) ∧
      (s.statusByte p).getLsbD 0 = (s.port p).attention ∧
      (s.running = true → s.attentionLine p = ((s.statusByte p).getLsbD 4 && (s.statusByte p).getLsbD 0))) ∧
  (∀ (p : Port) (s : State), Executing s p 0x01#8 [] →
      let role : Port → Byte := fun q => match (s.port q).role with | .staff => 0x00#8 | .kiosk => 0x01#8
      exec (.identify p) s = .next (s.withResult p [0x00#8, 0x4C#8, 0x01#8, role p, role (otherPort p)])) ∧
  (∀ (p : Port) (s : State), Executing s p 0x04#8 [] →
      let t := (s.putPort p { s.port p with lost := 0 }).withResult p
        [0x00#8, BitVec.ofNat 8 (s.port p).events.length, BitVec.ofNat 8 (s.port p).lost]
      exec (.portStatus p) s = .next t ∧ (s.Bounded → (s.port p).events.length ≤ 8 ∧ (s.port p).lost ≤ 255) ∧
      (∀ e, 8 ≤ (s.port p).events.length → ((post p e t).port p).lost = 1))

/-- The event queue and the attention enable (R182 to R184). SET ATTENTION takes the value given, or refuses one that is neither 0 nor 1;
TAKE EVENT returns the oldest event, which leaves the queue, or EMPTY; and an event offered to a queue joins its newest end while it
holds fewer than 8, and is dropped and counted at a full one, the lost count staying at 255. -/
def Obligations.EventQueueAndAttention : Prop :=
  (∀ (p : Port) (s : State),
      (∀ b, Executing s p 0x02#8 [b] →
        exec (.setAttention p) s = .next (
          if b = 0x00#8 then (s.putPort p { s.port p with attention := false }).withResult p [0x00#8]
          else if b = 0x01#8 then (s.putPort p { s.port p with attention := true }).withResult p [0x00#8]
          else s.withResult p [0x03#8])) ∧
      (Executing s p 0x03#8 [] → (s.port p).events = [] →
        exec (.takeEvent p) s = .next (s.withResult p [0x07#8])) ∧
      (∀ e rest, Executing s p 0x03#8 [] → (s.port p).events = e :: rest →
        exec (.takeEvent p) s =
          .next ((s.putPort p { s.port p with events := rest }).withResult p (0x00#8 :: e.bytes)) ∧
        e.bytes.length = 14)) ∧
  (∀ (p : Port) (e : Event) (s : State),
      ((s.port p).events.length < 8 → post p e s = s.putPort p { s.port p with events := (s.port p).events ++ [e] }) ∧
      (8 ≤ (s.port p).events.length → (s.port p).lost < 255 →
        post p e s = s.putPort p { s.port p with lost := (s.port p).lost + 1 }) ∧
      (8 ≤ (s.port p).events.length → (s.port p).lost = 255 → post p e s = s))

/-! ### Commands that report -/

/-- STATION STATUS (R20) and TRANSACTION STATUS (R121); at most 2 codes wait in every state that keeps the invariants below. That
TRANSACTION STATUS sends slip wanted and the override flag as 1 for yes and set and as 0 for no and clear is the model's choice (log
entry 37). -/
def Obligations.StationAndTransactionStatus : Prop :=
  (∀ (p : Port) (s : State),
      (∀ n, Executing s p 0x11#8 [n] → 3 < n.toNat → exec (.stationStatus p) s = .next (s.withResult p [0x03#8])) ∧
      (∀ st, Executing s p 0x11#8 [BitVec.ofNat 8 (stationNumber st)] →
        exec (.stationStatus p) s = .next (s.withResult p
          [0x00#8,
           match s.owner st with | some .A => 0x00#8 | some .B => 0x01#8 | none => 0xFF#8,
           if (s.station st).present then 0x01#8 else 0x00#8, BitVec.ofNat 8 (s.station st).scans.length,
           if (s.station st).overflow then 0x01#8 else 0x00#8, (s.slot st).state.code]) ∧
        (s.Bounded → (s.station st).scans.length ≤ 2))) ∧
  (∀ (p : Port) (s : State),
      (∀ n, Executing s p 0x24#8 [n] → 3 < n.toNat → exec (.transactionStatus p) s = .next (s.withResult p [0x03#8])) ∧
      (∀ st, Executing s p 0x24#8 [BitVec.ofNat 8 (stationNumber st)] →
        exec (.transactionStatus p) s = .next (s.withResult p
          ([0x00#8, (s.slot st).state.code,
            match (s.slot st).mode with
            | some .checkout => 0x00#8 | some .returning => 0x01#8 | some .renewing => 0x02#8 | none => 0xFF#8,
            if (s.slot st).slipWanted then 0x01#8 else 0x00#8] ++ codeOrAbsent (s.slot st).patron ++
           [BitVec.ofNat 8 (s.slot st).draft.length, if (s.slot st).overridden then 0x01#8 else 0x00#8] ++
           codeOrAbsent (s.slot st).reopen))))

/-- TABLE COUNTS (R44), READ CLOCK (R65), PRINTER STATUS (R142) and LINK STATUS (R166). The numbers lie in the ranges that the rules give
in every state that keeps the invariants below: at most 8 SENT records, 8 slips and 4 waiting slots. -/
def Obligations.UnitStatusCommands : Prop :=
  (∀ (p : Port) (s : State), Executing s p 0x38#8 [] →
      exec (.tableCounts p) s = .next (s.withResult p (0x00#8 ::
        [s.rm.journal.length, s.rm.loans.length, s.rm.blocks.length, s.rm.flags.length, s.rm.balances.length,
         s.rm.closures.length, (s.rm.journal.filter (fun r => r.sent = false)).length].flatMap be16)) ∧
      (s.SentFirst → s.rm.journal.length - (s.rm.journal.filter (fun r => r.sent = false)).length ≤ 8)) ∧
  (∀ (p : Port) (s : State), Executing s p 0x41#8 [] →
      exec (.readClock p) s = .next (s.withResult p
        (0x00#8 :: be16 s.clock.day ++ be16 s.clock.minute ++
          [BitVec.ofNat 8 (s.clock.day % 7), if s.clock.unset then 0x01#8 else 0x00#8]))) ∧
  (∀ (p : Port) (s : State), Executing s p 0x52#8 [] →
      exec (.printerStatus p) s = .next (s.withResult p
        ([0x00#8, s.slip.printer.code, BitVec.ofNat 8 s.slip.queue.length, if s.slip.paperOut then 0x01#8 else 0x00#8,
          BitVec.ofNat 8 s.slip.waiting.length] ++
         match s.slip.queue with
         | [] => [0xFF#8, 0xFF#8]
         | sl :: _ => be16OrAbsent sl.number)) ∧
      (s.Bounded → s.slip.queue.length ≤ 8) ∧ (s.WaitsMatch → s.slip.waiting.length ≤ 4)) ∧
  (∀ (p : Port) (s : State), Executing s p 0x62#8 [] →
      exec (.linkStatus p) s = .next (s.withResult p
        ([0x00#8, s.link.run.code] ++
         (match s.link.outcome with
          | .none => [0x00#8, 0xFF#8]
          | .done => [0x01#8, 0xFF#8]
          | .failed r => [0x02#8, r.code]) ++
         be16 (s.rm.journal.filter (fun r => r.sent = false)).length ++ [BitVec.ofNat 8 s.link.attempts])))

/-! ### Wand stations -/

/-- ASSIGN STATION (R18) and SET STATION (R19): a station above 3 or an owner that is none of the three is refused, a slot that is not IDLE
keeps its station's owner, and otherwise the station's settings are written with their check word (R194), the codes of a station given
an owner being discarded. READ SCAN (R13) and KEY ENTRY (R14), with their checks in order; a keyed code joins the scan slots, and is
reported where the slot is IDLE (R11, R12). -/
def Obligations.StationCommands : Prop :=
  (∀ (p : Port) (s : State), (s.port p).role = .staff →
      (∀ n o, Executing s p 0x10#8 [n, o] →
        (3 < n.toNat ∨ (o ≠ 0x00#8 ∧ o ≠ 0x01#8 ∧ o ≠ 0xFF#8) →
          exec (.assignStation p) s = .next (s.withResult p [0x03#8])) ∧
        (∀ st owner, n = stationByte st → o = ownerCode owner →
          ((s.slot st).state ≠ .idle → exec (.assignStation p) s = .next (s.withResult p [0x05#8])) ∧
          ((s.slot st).state = .idle →
            exec (.assignStation p) s = .next
              (((s.putStation st { s.station st with scans := [], overflow := false }).withConfig
                { s.config with stations := s.config.stations.set st { s.stationConfig st with owner := owner } }).withResult
                  p [0x00#8])))) ∧
      (∀ n w1 w0 t1 t0, Executing s p 0x14#8 [n, w1, w0, t1, t0] →
        (3 < n.toNat → exec (.setStation p) s = .next (s.withResult p [0x03#8])) ∧
        (∀ st, n = stationByte st →
          exec (.setStation p) s = .next
            ((s.withConfig { s.config with stations := s.config.stations.set st { s.stationConfig st with
                repeatWindow := min (w1.toNat * 256 + w0.toNat) 5000, timeout := min (t1.toNat * 256 + t0.toNat) 600 } }).withResult
              p [0x00#8])))) ∧
  (∀ (p : Port) (s : State),
      (∀ n, Executing s p 0x12#8 [n] →
        (3 < n.toNat → exec (.readScan p) s = .next (s.withResult p [0x03#8])) ∧
        (∀ st, n = stationByte st →
          exec (.readScan p) s = .next (
            if s.owner st ≠ some p then s.withResult p [0x04#8]
            else if (s.slot st).state ≠ .idle then s.withResult p [0x05#8]
            else
              match (s.station st).scans with
              | [] => s.withResult p [0x07#8]
              | c :: rest =>
                (s.putStation st { s.station st with scans := rest, overflow := false }).withResult p
                  (0x00#8 :: codeBytes c)))) ∧
      (∀ n c, Executing s p 0x13#8 (n :: codeBytes c) →
        (3 < n.toNat → exec (.keyEntry p) s = .next (s.withResult p [0x03#8])) ∧
        (∀ st, n = stationByte st →
          exec (.keyEntry p) s = .next (
            if s.owner st ≠ some p then s.withResult p [0x04#8]
            else if codeValid c = false then s.withResult p [0x0C#8]
            else if 2 ≤ (s.station st).scans.length then s.withResult p [0x08#8]
            else
              let u := s.putStation st { s.station st with scans := (s.station st).scans ++ [c] }
              (if (s.slot st).state = .idle then u.reporting st p [c] else u).withResult p [0x00#8]))))

/-- The wand's own events (R3, R4, R17): a bar begins an acquisition in QUIET; an element in range is kept among the first 91
and counted; an element out of range abandons the acquisition with FAULT; quiet ends WAIT-QUIET; and a pattern that has run
its length falls silent. -/
def Obligations.WandDecoderMoves : Prop :=
  ∀ (st : Station) (s : State), s.running = true →
    ((s.station st).decoder = .quiet →
      exec (.acquisitionStart st) s = .next (s.putStation st { s.station st with decoder := .acquiring [] 0 })) ∧
    (∀ kept count, (s.station st).decoder = .acquiring kept count →
      let faulted := s.putStation st { s.station st with decoder := .waitQuiet, indicator := some .fault }
      (∀ ticks, 10 ≤ ticks → ticks ≤ 10000 →
        exec (.elementMeasured st ticks) s = .next (s.putStation st { s.station st with
          decoder := .acquiring (if count < 91 then kept ++ [ticks] else kept) (count + 1) })) ∧
      (∀ ticks, ticks < 10 ∨ (10000 < ticks ∧ (count % 2 = 0 ∨ ticks < 12500)) →
        exec (.elementMeasured st ticks) s = .next faulted) ∧
      (∀ ticks, 12500 ≤ ticks → count % 2 = 1 → exec (.elementMeasured st ticks) s = .next s) ∧
      exec (.acquisitionAbandon st) s = .next faulted) ∧
    ((s.station st).decoder = .waitQuiet →
      exec (.quietReached st) s = .next (s.putStation st { s.station st with decoder := .quiet })) ∧
    exec (.patternEnd st) s = .next (s.putStation st { s.station st with indicator := none })

/-- The end of a symbol (R9 to R12): a symbol that gives no code sounds FAULT; one that gives a code is discarded at a station
without an owner and inside the repeat window of the same code; an accepted code is noted in the repeat filter, joins the scan
slots where one is empty, and is dropped where both are full, with SCAN-LOST on the first drop. The time since the last accepted
code is the difference of two timer readings, and a reading below the kept one counts as no time: the model's choice (log entry 5). -/
def Obligations.SymbolEndsInACodeOrAFault : Prop :=
  ∀ (st : Station) (ms count : Nat) (kept : List Nat) (s : State), s.running = true →
    (s.station st).decoder = .acquiring kept count → count % 2 = 1 →
    let w := s.station st
    let quiet : WandStation := { w with decoder := .quiet }
    (decodeElements kept count = none →
      exec (.decodeSymbol st ms) s = .next (s.putStation st { quiet with indicator := some .fault })) ∧
    (∀ c, decodeElements kept count = some c →
      (s.owner st = none → exec (.decodeSymbol st ms) s = .next (s.putStation st quiet)) ∧
      (∀ p, s.owner st = some p →
        (∀ t, w.lastAccepted = some (c, t) → ms - t < (s.stationConfig st).repeatWindow →
          exec (.decodeSymbol st ms) s = .next (s.putStation st quiet)) ∧
        ((∀ t, w.lastAccepted = some (c, t) → (s.stationConfig st).repeatWindow ≤ ms - t) →
          let noted : WandStation := { quiet with lastAccepted := some (c, ms) }
          exec (.decodeSymbol st ms) s = .next (
            if w.scans.length < 2 then
              let u := s.putStation st { noted with scans := w.scans ++ [c] }
              if (s.slot st).state = .idle then u.reporting st p [c] else u
            else if w.overflow then s.putStation st noted
            else
              post p ⟨.scanLost, some st, some c, none, none⟩ (s.putStation st { noted with overflow := true })))))

/-- A label reads the same from either end (R6 to R9, TABLE 1-4, TABLE 1-5): the elements of a valid code, with wide elements at
least one and a half times and at most five times the narrow ones and with gaps shorter than the wide ones, decode to that
code forward and reversed; and whatever the elements, what is decoded is a valid code of 91 elements (R2). -/
def Obligations.LabelReadsFromEitherEnd : Prop :=
  (∀ (c : Code) (n w g : Nat), codeValid c = true → 3 * n ≤ 2 * w → w ≤ 5 * n → 0 < n → g < w →
      decodeElements (labelElements c n w g) 91 = some c ∧ decodeElements (labelElements c n w g).reverse 91 = some c) ∧
  (∀ (kept : List Nat) (count : Nat) (c : Code), decodeElements kept count = some c → count = 91 ∧ codeValid c = true)

/-- The presence sample (R15, R16): at every station the level is held as the previous sample, and the recorded presence changes
to it when it differs and equals the sample before; the decoder follows, DISABLED on a change to absent and, in DAY, QUIET on a
change to present; the owner, or each STAFF port where there is none, is told, and nothing else changes. Where several stations change
in one sample their events come in ascending station order, which is the model's choice (log entry 33). -/
def Obligations.PresenceSampleOfEveryStation : Prop :=
  ∀ (levels : PerStation Bool) (s : State), s.running = true →
    ∃ t, exec (.presenceSample levels) s = .next t ∧ t = { s with stations := t.stations, ports := t.ports } ∧
      let changes : Station → Bool := fun st =>
        decide (levels.get st ≠ (s.station st).present ∧ (s.station st).prevSample = some (levels.get st))
      let told : Station → State → State := fun st u =>
        let e : Event := ⟨.stationChange, some st, none, none, some (.presence (levels.get st))⟩
        match s.owner st with
        | some p => post p e u
        | none => postStaff e u
      (∀ st, (changes st →
          t.station st = { s.station st with
            prevSample := some (levels.get st), present := levels.get st,
            decoder :=
              if levels.get st = false then .disabled
              else if (s.station st).decoder = .disabled ∧ s.mode = .day then .quiet else (s.station st).decoder }) ∧
        (¬ changes st → t.station st = { s.station st with prevSample := some (levels.get st) })) ∧
      t.ports = (([.s0, .s1, .s2, .s3] : List Station).foldl (fun u st => if changes st then told st u else u) s).ports

/-! ### Transactions -/

/-- OPEN TRANSACTION (R100, R101), with its checks in order. -/
def Obligations.OpenTransactionOpensTheSlot : Prop :=
  ∀ (p : Port) (n m sl : Byte) (s : State), Executing s p 0x20#8 [n, m, sl] →
    (3 < n.toNat → exec (.openTransaction p) s = .next (s.withResult p [0x03#8])) ∧
    (∀ st, n = stationByte st →
      exec (.openTransaction p) s = .next (
        if s.owner st ≠ some p then s.withResult p [0x04#8]
        else if 2 < m.toNat ∨ 1 < sl.toNat then s.withResult p [0x03#8]
        else if s.mode = .night then s.withResult p [0x0E#8]
        else if s.clock.unset then s.withResult p [0x0D#8]
        else if (s.slot st).state ≠ .idle then s.withResult p [0x05#8]
        else (s.putSlot st
          { state := if m = 0x01#8 then .returning else .awaitPatron,
            mode := some (if m = 0x00#8 then .checkout else if m = 0x01#8 then .returning else .renewing),
            slipWanted := sl = 0x01#8, patron := none, patronClass := none, overridden := false, draft := [],
            timer := if (s.stationConfig st).timeout = 0 then none else some (s.stationConfig st).timeout,
            reopen := none }).withResult p [0x00#8]))

/-- CLOSE TRANSACTION and CANCEL TRANSACTION (R100, R103, R105, R131): a slot that is not open is refused, and a cancel of lines is
refused; without a slip the slot enters IDLE, TRANSACTION-CLOSED goes to its owner and the waiting codes are reported; with a
slip and a place in the queue the slip is numbered and queued; with the queue full the slot waits in CLOSING. Where the queued slip
finds the printer READY without paper, PRINTER-FAULT comes last: the model's choice (log entry 7). -/
def Obligations.CloseAndCancelTransaction : Prop :=
  ∀ (p : Port) (st : Station) (s : State),
    let sl := s.slot st
    (Executing s p 0x21#8 [stationByte st] →
      (s.owner st ≠ some p → exec (.closeTransaction p) s = .next (s.withResult p [0x04#8])) ∧
      (s.owner st = some p →
        (sl.state.isOpen = false → exec (.closeTransaction p) s = .next (s.withResult p [0x05#8])) ∧
        (sl.state.isOpen = true → sl.slipWanted = false ∨ sl.draft = [] →
          exec (.closeTransaction p) s = .next ((s.endedAt st p none).withResult p [0x00#8, 0x00#8, 0xFF#8, 0xFF#8])) ∧
        (sl.state.isOpen = true → sl.slipWanted = true → sl.draft ≠ [] → s.slip.queue.length < 8 →
          exec (.closeTransaction p) s = .next
            ((((queueSlip (composeSlip st s) s).endedAt st p (some s.nextSlip)).toldFault s).withResult p
              ([0x00#8, 0x00#8] ++ be16 s.nextSlip))) ∧
        (sl.state.isOpen = true → sl.slipWanted = true → sl.draft ≠ [] → 8 ≤ s.slip.queue.length →
          exec (.closeTransaction p) s = .next
            ((s.closingAt st none).withResult p [0x00#8, 0x05#8, 0xFF#8, 0xFF#8])))) ∧
    (Executing s p 0x22#8 [stationByte st] →
      (s.owner st ≠ some p → exec (.cancelTransaction p) s = .next (s.withResult p [0x04#8])) ∧
      (s.owner st = some p →
        (sl.state.isOpen = false → exec (.cancelTransaction p) s = .next (s.withResult p [0x05#8])) ∧
        (sl.state.isOpen = true → sl.draft ≠ [] → exec (.cancelTransaction p) s = .next (s.withResult p [0x10#8])) ∧
        (sl.state.isOpen = true → sl.draft = [] →
          exec (.cancelTransaction p) s = .next ((s.endedAt st p none).withResult p [0x00#8])))) ∧
    (∀ n, 3 < n.toNat → Executing s p 0x21#8 [n] →
      exec (.closeTransaction p) s = .next (s.withResult p [0x03#8])) ∧
    (∀ n, 3 < n.toNat → Executing s p 0x22#8 [n] →
      exec (.cancelTransaction p) s = .next (s.withResult p [0x03#8]))

/-- OVERRIDE BLOCK (R100, R112), with its checks in order, which are not those of the other STAFF-only commands; the patron of a
PATRON-BLOCKED slot is let through with an OVERRIDE record, PATRON-OK and the ACCEPT tone, and JOURNAL-HIGH ends the step where it
is due (R38). -/
def Obligations.OverrideBlockLetsThePatronThrough : Prop :=
  ∀ (p : Port) (n : Byte) (s : State), Executing s p 0x23#8 [n] →
    (3 < n.toNat → exec (.overrideBlock p) s = .next (s.withResult p [0x03#8])) ∧
    (∀ st, n = stationByte st →
      ((s.port p).role = .kiosk → exec (.overrideBlock p) s = .next (s.withResult p [0x02#8])) ∧
      ((s.port p).role = .staff →
        (s.owner st ≠ some p → exec (.overrideBlock p) s = .next (s.withResult p [0x04#8])) ∧
        (s.owner st = some p →
          ((s.slot st).state ≠ .patronBlocked → exec (.overrideBlock p) s = .next (s.withResult p [0x05#8])) ∧
          (∀ patron, (s.slot st).state = .patronBlocked → (s.slot st).patron = some patron →
            (s.pfail = true → exec (.overrideBlock p) s = .next (s.withResult p [0x06#8])) ∧
            (s.pfail = false → 4096 ≤ s.rm.journal.length →
              exec (.overrideBlock p) s = .next (s.withResult p [0x0F#8])) ∧
            (s.pfail = false → s.rm.journal.length < 4096 →
              let told := post p ⟨.patronOk, some st, some patron, some (.amount (s.balanceOf patron)), none⟩ s
              let u : State := { told with
                rm := { s.rm with
                  journal := s.rm.journal ++ [⟨s.rm.nextSeq, .override, s.clock.day, s.clock.minute, none, p, {}, some patron,
                    none, none, none, none, false⟩],
                  nextSeq := (s.rm.nextSeq + 1) % 65536 },
                slots := s.slots.set st { s.slot st with
                  overridden := true, state := .serving,
                  timer := if (s.stationConfig st).timeout = 0 then none else some (s.stationConfig st).timeout },
                stations := s.stations.set st { s.station st with indicator := some .accept } }
              exec (.overrideBlock p) s = .next (u.endOfStep.withResult p [0x00#8]))))))

/-- The patron step (R110): the system and then the class are checked; a blocked borrower is taken as the patron of a
PATRON-BLOCKED slot, and any other of a SERVING one. -/
def Obligations.PatronStepTakesThePatron : Prop :=
  ∀ (st : Station) (p : Port) (c : Code) (rest : List Code) (s : State), Takes s st p c rest →
    (s.slot st).state = .awaitPatron → isBorrower c = true →
    let u := s.afterTaking st rest
    let takenIn : SlotState → Event → Pattern → State := fun x e sound =>
      let v := post p e (u.putSlot st { u.slot st with
        state := x, patron := some c, patronClass := some (borrowerClassOf c) })
      v.putStation st { v.station st with indicator := some sound }
    exec (.patronStep st) s = .next (
      if systemOf c ≠ s.config.system then u.refusedWith st p c .foreign
      else if (s.config.borrowerClasses.get (borrowerClassOf c)).loanLimit = 0 then u.refusedWith st p c .classBarred
      else if (s.blockOf c).isSome = true ∨ (0 < s.config.threshold ∧ s.config.threshold ≤ s.balanceOf c) then
        takenIn .patronBlocked ⟨.patronBlocked, some st, some c, none, some (.block (s.barReason c))⟩ .attention
      else takenIn .serving ⟨.patronOk, some st, some c, some (.amount (s.balanceOf c)), none⟩ .accept)

/-- The refusals of a checkout step, in the order of its checks (R108, R113, R114): each check is reached only past those before
it; a failed block check reports BLOCKED and takes the slot to PATRON-BLOCKED without the REFUSE tone. -/
def Obligations.CheckoutChecksInOrder : Prop :=
  ∀ (st : Station) (p : Port) (item patron : Code) (bc : Fin 8) (rest : List Code) (s : State), Takes s st p item rest →
    (s.slot st).state = .serving → (s.slot st).mode = some .checkout → isItem item = true →
    (s.slot st).patron = some patron → (s.slot st).patronClass = some bc →
    let u := s.afterTaking st rest
    let refused : Refuse → Prop := fun r => exec (.checkoutStep st) s = .next (u.refusedWith st p item r)
    let flagged : ItemFlag → Prop := fun f => (s.flagOf item).map FlagEntry.flag = some f
    let heldForAnother := ∃ f, s.flagOf item = some f ∧ f.flag = .reserved ∧ f.reserver ≠ some patron
    let limit := (s.config.borrowerClasses.get bc).loanLimit
    let due := s.dueAt s.clock.day s.clock.minute (itemClassOf item) bc
    let needed := (if flagged .missing ∨ flagged .reserved then 1 else 0) + (if (s.loanOf item).isSome then 1 else 0) + 1
    (systemOf item ≠ s.config.system → refused .foreign) ∧
    (systemOf item = s.config.system →
      ((s.slot st).overridden = false → s.Barred patron →
        let v := post p ⟨.itemRefused, some st, some item, none, some (.refuse .blocked)⟩ u
        let x := post p ⟨.patronBlocked, some st, some patron, none, some (.block (s.barReason patron))⟩
            (v.putSlot st { v.slot st with state := .patronBlocked })
        exec (.checkoutStep st) s = .next (x.putStation st { x.station st with indicator := some .attention })) ∧
      ((s.slot st).overridden = true ∨ ¬ s.Barred patron →
        (flagged .withdrawn ∨ flagged .reference → refused .notLoanable) ∧ (heldForAnother → refused .itemHeld) ∧
        (¬ flagged .withdrawn → ¬ flagged .reference → ¬ heldForAnother →
          (periodOf s.config (itemClassOf item) bc = 0 → refused .notLoanable) ∧
          (periodOf s.config (itemClassOf item) bc ≠ 0 →
            ((s.loanOf item).map Loan.borrower = some patron → refused .alreadyYours) ∧
            ((s.loanOf item).map Loan.borrower ≠ some patron →
              (limit ≠ 255 → limit ≤ s.loanCount patron → refused .limit) ∧
              (limit = 255 ∨ s.loanCount patron < limit →
                (32 ≤ (s.slot st).draft.length → refused .transactionFull) ∧
                ((s.slot st).draft.length < 32 →
                  (∀ elapsed, due = .calendarEnd elapsed → refused .calendarEnd) ∧
                  (∀ day minute facts, due = .due day minute facts → 4096 < s.rm.journal.length + needed →
                    refused .journalFull))))))))

/-- A checkout step of an unflagged item that no one has on loan, past every check (R26, R113, R116): one CHECKOUT record, the loan
or NOT-TABLED where the LOAN TABLE is full, one line of outcome OUT, ITEM-OUT to the owner, the ACCEPT tone, and JOURNAL-HIGH
where it is due (R38). A search in the LOAN TABLE moves with its entry (R41). -/
def Obligations.CheckoutStepLendsTheItem : Prop :=
  ∀ (st : Station) (p : Port) (item patron : Code) (bc : Fin 8) (rest : List Code) (day : Nat) (minute : Option Nat)
    (facts : DueFacts) (s : State), Takes s st p item rest →
    (s.slot st).state = .serving → (s.slot st).mode = some .checkout → isItem item = true →
    (s.slot st).patron = some patron → (s.slot st).patronClass = some bc → systemOf item = s.config.system →
    ((s.slot st).overridden = true ∨ ¬ s.Barred patron) → s.flagOf item = none → s.loanOf item = none →
    periodOf s.config (itemClassOf item) bc ≠ 0 →
    ((s.config.borrowerClasses.get bc).loanLimit = 255 ∨
      s.loanCount patron < (s.config.borrowerClasses.get bc).loanLimit) →
    (s.slot st).draft.length < 32 → s.dueAt s.clock.day s.clock.minute (itemClassOf item) bc = .due day minute facts →
    s.rm.journal.length < 4096 →
    ∃ t flags, exec (.checkoutStep st) s = .next t ∧
      t.rm.journal = s.rm.journal ++ [⟨s.rm.nextSeq, .checkout, s.clock.day, s.clock.minute, some st, p, flags, some patron,
        some item, some day, minute, none, false⟩] ∧ t.rm.nextSeq = (s.rm.nextSeq + 1) % 65536 ∧
      flags = { hour := minute.isSome, overridden := flags.overridden, notTabled := decide (8192 ≤ s.rm.loans.length) } ∧
      (flags.overridden = true ↔ (s.slot st).overridden = true ∧ s.Barred patron) ∧
      (s.rm.loans.length < 8192 →
        t.loanOf item = some ⟨item, patron, itemClassOf item, borrowerClassOf patron, s.clock.day, s.clock.minute, day,
          minute, 0, s.rm.nextSeq⟩ ∧
        ∀ other, other ≠ item → t.loanOf other = s.loanOf other) ∧
      (8192 ≤ s.rm.loans.length → t.rm.loans = s.rm.loans) ∧
      t.rm = { s.rm with journal := t.rm.journal, loans := t.rm.loans, nextSeq := t.rm.nextSeq } ∧
      t.slots = s.slots.set st { (s.afterTaking st rest).slot st with
        draft := (s.slot st).draft ++ [⟨item, .out, some (day, minute), 0, none⟩] } ∧
      t.stations = s.stations.set st { s.station st with
        scans := rest, overflow := false, indicator := some .accept } ∧
      t = { s with rm := t.rm, slots := t.slots, stations := t.stations, ports := t.ports, armed := t.armed } ∧
      TellsAtEnd (post p ⟨.itemOut, some st, some item, some (.due day minute), none⟩
        (if s.rm.loans.length < 8192 then moveSearches .loans (insertedAt (rank Loan.key item.toNat s.rm.loans)) s else s)) t ∧
      (∀ q, (t.port q).search = (s.port q).search.map (fun x =>
        if x.table = .loans ∧ s.rm.loans.length < 8192 ∧
            (s.rm.loans.filter (fun l => decide (l.item.toNat < item.toNat))).length < x.position then
          { x with position := x.position + 1 } else x))

/-- The other cases of a checkout step past every check (R28, R59, R113, R115, R116): an item flagged MISSING or RESERVED for the patron
loses its flag with a FLAG-CLEAR, and an item on loan to another borrower is returned with a RETURN/IMPLICIT that charges no fine,
both before the CHECKOUT, which is lent as any other. ITEM-FOUND, for a MISSING item, stands before ITEM-OUT, and JOURNAL-HIGH
ends the step where it is due (R38). The searches move with each entry that leaves or joins a table, in this order (R41). -/
def Obligations.CheckoutClearsAndReturnsImplicitly : Prop :=
  ∀ (st : Station) (p : Port) (item patron : Code) (bc : Fin 8) (rest : List Code) (day : Nat) (minute : Option Nat)
    (facts : DueFacts) (s : State), Takes s st p item rest →
    (s.slot st).state = .serving → (s.slot st).mode = some .checkout → isItem item = true →
    (s.slot st).patron = some patron → (s.slot st).patronClass = some bc → systemOf item = s.config.system →
    ((s.slot st).overridden = true ∨ ¬ s.Barred patron) →
    (∀ f, s.flagOf item = some f → f.flag = .missing ∨ (f.flag = .reserved ∧ f.reserver = some patron)) →
    (∀ l, s.loanOf item = some l → l.borrower ≠ patron) → periodOf s.config (itemClassOf item) bc ≠ 0 →
    ((s.config.borrowerClasses.get bc).loanLimit = 255 ∨
      s.loanCount patron < (s.config.borrowerClasses.get bc).loanLimit) →
    (s.slot st).draft.length < 32 → s.dueAt s.clock.day s.clock.minute (itemClassOf item) bc = .due day minute facts →
    let clears := if (s.flagOf item).isSome then 1 else 0
    let returns := if (s.loanOf item).isSome then 1 else 0
    let left := s.rm.loans.filter (fun l => l.item != item)
    let seq := (s.rm.nextSeq + clears + returns) % 65536
    s.rm.nextSeq < 65536 → s.rm.journal.length + (clears + returns + 1) ≤ 4096 →
    ∃ t flags, exec (.checkoutStep st) s = .next t ∧
      t.rm.journal = s.rm.journal ++
        (if (s.flagOf item).isSome then
          [⟨s.rm.nextSeq, .flagClear, s.clock.day, s.clock.minute, some st, p, {}, none, some item, none, none, none, false⟩]
         else []) ++
        (match s.loanOf item with
         | some l =>
           [⟨(s.rm.nextSeq + clears) % 65536, .returned, s.clock.day, s.clock.minute, some st, p, { implicit := true },
             some l.borrower, some item, none, none, none, false⟩]
         | none => []) ++
        [⟨seq, .checkout, s.clock.day, s.clock.minute, some st, p, flags, some patron, some item, some day, minute, none,
          false⟩] ∧
      flags = { hour := minute.isSome, overridden := flags.overridden, notTabled := decide (8192 ≤ left.length) } ∧
      (flags.overridden = true ↔ (s.slot st).overridden = true ∧ s.Barred patron) ∧
      t.flagOf item = none ∧ (∀ other, other ≠ item → t.flagOf other = s.flagOf other) ∧
      t.loanOf item = (if left.length < 8192 then
        some ⟨item, patron, itemClassOf item, borrowerClassOf patron, s.clock.day, s.clock.minute, day, minute, 0, seq⟩
       else none) ∧
      (∀ other, other ≠ item → t.loanOf other = s.loanOf other) ∧
      t.rm = { s.rm with
        journal := t.rm.journal, loans := t.rm.loans, flags := t.rm.flags, nextSeq := (seq + 1) % 65536 } ∧
      t.slots = s.slots.set st { (s.afterTaking st rest).slot st with
        draft := (s.slot st).draft ++ [⟨item, .out, some (day, minute), 0, none⟩] } ∧
      t.stations = s.stations.set st { s.station st with
        scans := rest, overflow := false, indicator := some .accept } ∧
      t = { s with rm := t.rm, slots := t.slots, stations := t.stations, ports := t.ports, armed := t.armed } ∧
      TellsAtEnd
        (let unflagged :=
           if (s.flagOf item).isSome then moveSearches .flags (removedAt (rank FlagEntry.key item.toNat s.rm.flags)) s else s
         let returned :=
           if (s.loanOf item).isSome then moveSearches .loans (removedAt (rank Loan.key item.toNat s.rm.loans)) unflagged
           else unflagged
         let lent :=
           if left.length < 8192 then moveSearches .loans (insertedAt (rank Loan.key item.toNat left)) returned else returned
         post p ⟨.itemOut, some st, some item, some (.due day minute), none⟩
           (if (s.flagOf item).map FlagEntry.flag = some .missing then
             post p ⟨.itemFound, some st, some item, none, none⟩ lent else lent)) t

/-- A return step (R28, R85, R89 to R93, R117, R118), with its two refusals in order, the second of them counting the FINE and the
block record that the threshold test calls for. An item without a loan is returned FOREIGN or UNKNOWN, without borrower or fine. The
loan of an item on loan leaves the LOAN TABLE, RETURN carries its borrower, and a fine above 0 is charged with its FINE, the
borrower's balance and the block record of the threshold test. The terminals are told BLOCK-LIST-FULL (R49), HOLD-SHELF, ITEM-IN with
the fine and JOURNAL-HIGH (R38), in this order, and the searches move with the entries of the two tables (R41). -/
def Obligations.ReturnStepTakesTheItemIn : Prop :=
  (∀ (st : Station) (p : Port) (item : Code) (rest : List Code) (s : State), Takes s st p item rest →
      (s.slot st).state = .returning → isItem item = true → s.loanOf item = none →
      let u := s.afterTaking st rest
      let held := (s.flagOf item).bind (fun f => if f.flag = .reserved then f.reserver else none)
      (32 ≤ (s.slot st).draft.length →
        exec (.returnStep st) s = .next (u.refusedWith st p item .transactionFull)) ∧
      ((s.slot st).draft.length < 32 → 4096 ≤ s.rm.journal.length →
        exec (.returnStep st) s = .next (u.refusedWith st p item .journalFull)) ∧
      ((s.slot st).draft.length < 32 → s.rm.journal.length < 4096 →
        let shelved := match held with
          | some b => post p ⟨.holdShelf, some st, some b, none, none⟩ s
          | none => s
        let v : State := { post p ⟨.itemIn, some st, some item, some (.amount 0), none⟩ shelved with
          rm := { s.rm with
            journal := s.rm.journal ++ [⟨s.rm.nextSeq, .returned, s.clock.day, s.clock.minute, some st, p,
              if systemOf item = s.config.system then { unknown := true } else { foreign := true }, none, some item, none, none,
              none, false⟩],
            nextSeq := (s.rm.nextSeq + 1) % 65536 },
          slots := s.slots.set st { u.slot st with draft := (s.slot st).draft ++ [⟨item, .returned, none, 0, held⟩] },
          stations := s.stations.set st { s.station st with
            scans := rest, overflow := false, indicator := some .accept } }
        exec (.returnStep st) s = .next v.endOfStep)) ∧
  (∀ (st : Station) (p : Port) (item : Code) (rest : List Code) (l : Loan) (s : State), Takes s st p item rest →
      (s.slot st).state = .returning → isItem item = true → s.loanOf item = some l →
      let u := s.afterTaking st rest
      let fine := s.fineOf l
      let b := l.borrower
      let held := (s.flagOf item).bind (fun f => if f.flag = .reserved then f.reserver else none)
      let after := if s.tracks b then min (s.balanceOf b + fine) 999999 else s.balanceOf b
      let needed := if 0 < fine then 2 + (if (s.testCallsFor b after).isSome then 1 else 0) else 1
      let next : Nat → Nat := fun k => (s.rm.nextSeq + k) % 65536
      (32 ≤ (s.slot st).draft.length →
        exec (.returnStep st) s = .next (u.refusedWith st p item .transactionFull)) ∧
      ((s.slot st).draft.length < 32 → 4096 < s.rm.journal.length + needed →
        exec (.returnStep st) s = .next (u.refusedWith st p item .journalFull)) ∧
      ((s.slot st).draft.length < 32 → s.rm.journal.length + needed ≤ 4096 →
        ∃ t, exec (.returnStep st) s = .next t ∧
          t.rm.journal = s.rm.journal ++
            [⟨s.rm.nextSeq, .returned, s.clock.day, s.clock.minute, some st, p, {}, some b, some item, none, none, none,
              false⟩] ++
            (if 0 < fine then
              ⟨next 1, .fine, s.clock.day, s.clock.minute, some st, p, { untracked := !s.tracks b }, some b, some item,
                none, none, some fine, false⟩ :: s.blockRecords (next 2) (some st) p b after
             else []) ∧
          t.loanOf item = none ∧ (∀ other, other ≠ item → t.loanOf other = s.loanOf other) ∧
          (0 < fine → t.balanceOf b = after ∧ BlocksFollowTest s t b after) ∧ (fine = 0 → t.rm.blocks = s.rm.blocks) ∧
          (∀ other, other ≠ b → t.balanceOf other = s.balanceOf other) ∧
          t.rm = { s.rm with
            journal := t.rm.journal, loans := t.rm.loans, blocks := t.rm.blocks,
            balances := if 0 < fine then s.balancesCharged b (fun x => min (x + fine) 999999) else s.rm.balances,
            nextSeq := (s.rm.nextSeq + (t.rm.journal.length - s.rm.journal.length)) % 65536 } ∧
          t.slots = s.slots.set st { u.slot st with
            draft := (s.slot st).draft ++ [⟨item, .returned, none, fine, held⟩] } ∧
          t.stations = s.stations.set st { s.station st with scans := rest, overflow := false, indicator := some .accept } ∧
          t = { s with rm := t.rm, slots := t.slots, stations := t.stations, ports := t.ports, armed := t.armed } ∧
          (let removed := moveSearches .loans (removedAt (rank Loan.key item.toNat s.rm.loans)) s
           let tested := if 0 < fine then removed.testedPorts b after else removed
           let shelved := match held with
             | some reserver => post p ⟨.holdShelf, some st, some reserver, none, none⟩ tested
             | none => tested
           TellsAtEnd (post p ⟨.itemIn, some st, some item, some (.amount fine), none⟩ shelved) t)))

/-- The refusals of a renew step, in the order of its checks (R108, R114, R119); check 8, journal room, counts the RENEW, the FINE of a
late loan and the block record that its threshold test calls for (R35). -/
def Obligations.RenewChecksInOrder : Prop :=
  ∀ (st : Station) (p : Port) (item patron : Code) (rest : List Code) (s : State), Takes s st p item rest →
    (s.slot st).state = .serving → (s.slot st).mode = some .renewing → isItem item = true →
    (s.slot st).patron = some patron →
    let u := s.afterTaking st rest
    let refused : Refuse → Prop := fun r => exec (.renewStep st) s = .next (u.refusedWith st p item r)
    (systemOf item ≠ s.config.system → refused .foreign) ∧
    (systemOf item = s.config.system →
      ((s.slot st).overridden = false → s.Barred patron →
        let v := post p ⟨.itemRefused, some st, some item, none, some (.refuse .blocked)⟩ u
        let x := post p ⟨.patronBlocked, some st, some patron, none, some (.block (s.barReason patron))⟩
            (v.putSlot st { v.slot st with state := .patronBlocked })
        exec (.renewStep st) s = .next (x.putStation st { x.station st with indicator := some .attention })) ∧
      ((s.slot st).overridden = true ∨ ¬ s.Barred patron →
        (s.loanOf item = none → refused .notOnLoan) ∧
        (∀ l, s.loanOf item = some l →
          (l.borrower ≠ patron → refused .notYours) ∧
          (l.borrower = patron →
            ((s.flagOf item).map FlagEntry.flag = some .reserved → refused .itemHeld) ∧
            ((s.flagOf item).map FlagEntry.flag ≠ some .reserved →
              ((s.config.itemClasses.get l.itemClass).maxRenewals ≤ l.renewals → refused .renewalLimit) ∧
              (l.renewals < (s.config.itemClasses.get l.itemClass).maxRenewals →
                (32 ≤ (s.slot st).draft.length → refused .transactionFull) ∧
                ((s.slot st).draft.length < 32 →
                  let early := s.clock.day * 1440 + s.clock.minute < l.outDay * 1440 + l.outMinute
                  let due := if early then s.dueAt l.outDay l.outMinute l.itemClass l.borrowerClass
                    else s.dueAt s.clock.day s.clock.minute l.itemClass l.borrowerClass
                  let fine := s.fineOf l
                  let after := if s.tracks patron then min (s.balanceOf patron + fine) 999999 else s.balanceOf patron
                  let needed := if 0 < fine then 2 + (if (s.testCallsFor patron after).isSome then 1 else 0) else 1
                  (due = .notLoanable → refused .notLoanable) ∧
                  (∀ elapsed, due = .calendarEnd elapsed → refused .calendarEnd) ∧
                  (∀ day minute facts, due = .due day minute facts → 4096 < s.rm.journal.length + needed →
                    refused .journalFull))))))))

/-- A renew step past every check (R27, R114, R120): FINE with its balance and block record first where the loan is late, then
RENEW; the loan takes the new due, one renewal more and the sequence of its RENEW, and keeps the rest. The terminals are told
BLOCK-LIST-FULL (R49), ITEM-RENEWED with the new due and JOURNAL-HIGH (R38), in this order, and the searches in the BLOCK LIST move with
its entry (R41). -/
def Obligations.RenewStepRenewsTheLoan : Prop :=
  ∀ (st : Station) (p : Port) (item patron : Code) (rest : List Code) (l : Loan) (day : Nat) (minute : Option Nat)
    (facts : DueFacts) (s : State), Takes s st p item rest →
    (s.slot st).state = .serving → (s.slot st).mode = some .renewing → isItem item = true →
    (s.slot st).patron = some patron → systemOf item = s.config.system →
    ((s.slot st).overridden = true ∨ ¬ s.Barred patron) → s.loanOf item = some l → l.borrower = patron →
    (s.flagOf item).map FlagEntry.flag ≠ some .reserved →
    l.renewals < (s.config.itemClasses.get l.itemClass).maxRenewals → (s.slot st).draft.length < 32 →
    (if s.clock.day * 1440 + s.clock.minute < l.outDay * 1440 + l.outMinute then
       s.dueAt l.outDay l.outMinute l.itemClass l.borrowerClass
     else s.dueAt s.clock.day s.clock.minute l.itemClass l.borrowerClass) = .due day minute facts →
    let fine := s.fineOf l
    let after := if s.tracks patron then min (s.balanceOf patron + fine) 999999 else s.balanceOf patron
    let needed := if 0 < fine then 2 + (if (s.testCallsFor patron after).isSome then 1 else 0) else 1
    let block := s.blockRecords ((s.rm.nextSeq + 1) % 65536) (some st) p patron after
    let seq := if 0 < fine then (s.rm.nextSeq + 1 + block.length) % 65536 else s.rm.nextSeq
    s.rm.journal.length + needed ≤ 4096 →
    ∃ t flags, exec (.renewStep st) s = .next t ∧
      t.rm.journal = s.rm.journal ++
        (if 0 < fine then
          ⟨s.rm.nextSeq, .fine, s.clock.day, s.clock.minute, some st, p, { untracked := !s.tracks patron },
            some patron, some item, none, none, some fine, false⟩ :: block
         else []) ++
        [⟨seq, .renewed, s.clock.day, s.clock.minute, some st, p, flags, some patron, some item, some day, minute, none, false⟩] ∧
      flags = { hour := minute.isSome, overridden := flags.overridden } ∧
      (flags.overridden = true ↔ (s.slot st).overridden = true ∧ s.Barred patron) ∧
      t.loanOf item = some { l with dueDay := day, dueMinute := minute, renewals := l.renewals + 1, seq := seq } ∧
      (∀ other, other ≠ item → t.loanOf other = s.loanOf other) ∧ t.rm.loans.length = s.rm.loans.length ∧
      (0 < fine → t.balanceOf patron = after ∧ BlocksFollowTest s t patron after) ∧
      (fine = 0 → t.rm.blocks = s.rm.blocks) ∧ (∀ other, other ≠ patron → t.balanceOf other = s.balanceOf other) ∧
      t.rm = { s.rm with
        journal := t.rm.journal, loans := t.rm.loans, blocks := t.rm.blocks,
        balances := if 0 < fine then s.balancesCharged patron (fun x => min (x + fine) 999999) else s.rm.balances,
        nextSeq := (seq + 1) % 65536 } ∧
      t.slots = s.slots.set st { (s.afterTaking st rest).slot st with
        draft := (s.slot st).draft ++ [⟨item, .renewed, some (day, minute), fine, none⟩] } ∧
      t.stations = s.stations.set st { s.station st with scans := rest, overflow := false, indicator := some .accept } ∧
      t = { s with rm := t.rm, slots := t.slots, stations := t.stations, ports := t.ports, armed := t.armed } ∧
      TellsAtEnd (post p ⟨.itemRenewed, some st, some item, some (.due day minute), none⟩
        (if 0 < fine then s.testedPorts patron after else s)) t

/-- The codes that TABLE 6-4 gives no table to consult (R108, R109, R111): the patron's own code is ignored, a code of the wrong
type is refused, and another borrower's card in SERVING closes the transaction and reopens it with that card. Where the closing slip
finds the printer READY without paper, PRINTER-FAULT comes last: the model's choice (log entry 7). -/
def Obligations.SecondCardsAndCodesNotTaken : Prop :=
  ∀ (st : Station) (p : Port) (c : Code) (rest : List Code) (s : State), Takes s st p c rest →
    let u := s.afterTaking st rest
    let sl := s.slot st
    let reopened : State → State := fun v =>
      patronStepOf st c (v.putSlot st
        { state := .awaitPatron, mode := sl.mode, slipWanted := sl.slipWanted, patron := none, patronClass := none,
          overridden := false, draft := [],
          timer := if (s.stationConfig st).timeout = 0 then none else some (s.stationConfig st).timeout, reopen := none })
    let closed : Option Nat → State → State := fun number v =>
      post p ⟨.transactionClosed, some st, none, number.map .number, none⟩
        (v.putSlot st ⟨.idle, none, false, none, none, false, [], none, none⟩)
    (sl.state = .serving → sl.patron = some c → exec (.ignoredCode st) s = .next u) ∧
    (sl.state = .awaitPatron → isItem c = true → exec (.wrongCodeRefusal st) s = .next (u.refusedWith st p c .needPatron)) ∧
    (sl.state = .patronBlocked → exec (.wrongCodeRefusal st) s = .next (u.refusedWith st p c .wrongType)) ∧
    (sl.state = .returning → isBorrower c = true →
      exec (.wrongCodeRefusal st) s = .next (u.refusedWith st p c .wrongType)) ∧
    (sl.state = .serving → isBorrower c = true → sl.patron ≠ some c →
      (sl.slipWanted = false ∨ sl.draft = [] → exec (.secondCard st) s = .next (reopened (closed none u))) ∧
      (sl.slipWanted = true → sl.draft ≠ [] → s.slip.queue.length < 8 →
        exec (.secondCard st) s =
          .next ((reopened (closed (some s.nextSlip) (queueSlip (composeSlip st u) u))).toldFault s)) ∧
      (sl.slipWanted = true → sl.draft ≠ [] → 8 ≤ s.slip.queue.length →
        exec (.secondCard st) s = .next (u.closingAt st (some c))))

/-- The inactivity timer's expiry (R106): TIMED-OUT, the ATTENTION tone, and the end that CANCEL gives a transaction without lines
and CLOSE one with lines. Where the closing slip finds the printer READY without paper, PRINTER-FAULT comes last: the model's choice
(log entry 7). -/
def Obligations.InactivityEndsTheTransaction : Prop :=
  ∀ (st : Station) (p : Port) (s : State), s.running = true → (s.slot st).state.isOpen = true →
    (s.slot st).timer.isSome = true → s.owner st = some p →
    let v := post p ⟨.timedOut, some st, none, none, none⟩ s
    let u := v.putStation st { v.station st with indicator := some .attention }
    ((s.slot st).draft = [] ∨ (s.slot st).slipWanted = false →
      exec (.inactivityTimeout st) s = .next (u.endedAt st p none)) ∧
    ((s.slot st).draft ≠ [] → (s.slot st).slipWanted = true → s.slip.queue.length < 8 →
      exec (.inactivityTimeout st) s =
        .next (((queueSlip (composeSlip st u) u).endedAt st p (some s.nextSlip)).toldFault s)) ∧
    ((s.slot st).draft ≠ [] → (s.slot st).slipWanted = true → 8 ≤ s.slip.queue.length →
      exec (.inactivityTimeout st) s = .next (u.closingAt st none))

/-- What holds of every item step. No CHECKOUT or RENEW record is written for a barred borrower unless the override is in force (R114).
A step is made whole or not at all (R35, R108): it writes at least one record and adds one line for the code it took, or it leaves
the collections, the draft, the override and the patron as they were. -/
def Obligations.ItemStepsAreWholeAndHonourBlocks : Prop :=
  (∀ (st : Station) (s t : State) (c : Instr), c ∈ [Instr.checkoutStep st, .renewStep st] → exec c s = .next t →
      ∃ new, t.rm.journal = s.rm.journal ++ new ∧
        ∀ r ∈ new, r.kind = .checkout ∨ r.kind = .renewed →
          ∃ b, r.borrower = some b ∧ (s.slot st).patron = some b ∧
            (s.Barred b → (s.slot st).overridden = true ∧ r.flags.overridden = true)) ∧
  (∀ (st : Station) (s t : State) (c : Instr), c ∈ [Instr.checkoutStep st, .returnStep st, .renewStep st] →
      exec c s = .next t →
      (t.rm = s.rm ∧ (t.slot st).draft = (s.slot st).draft ∧ (t.slot st).overridden = (s.slot st).overridden ∧
        (t.slot st).patron = (s.slot st).patron) ∨
      (s.rm.journal.length < t.rm.journal.length ∧
        ∃ line, (t.slot st).draft = (s.slot st).draft ++ [line] ∧ (s.station st).scans.head? = some line.item))

/-! ### The record-memory collections -/

/-- FIND (R40), ABORT FIND (R42) and the end of a search (R41), which changes no collection. READ ENTRY (R43): a table number above 5 is
refused, an index at or beyond the count is EMPTY, and otherwise the entry is returned in the layout of its table (TABLE 11-4), field by
field, numbers and codes high byte first and absent fields as FFH (Section 11). R41 examines one entry at a time: that the row of the search's end examines from the position to the first
match or the end of the table in one event is the model's choice (log entry 23). A search's position moves with the table (R41): as an
entry joins it at an index the entries still ahead of the search are those of before, with the new one among them where it joins at
or after the position; and as the entry at an index leaves it they are those of before, without it. Both ports' searches in the table
move so, and no others. -/
def Obligations.SearchesAndEntriesRead : Prop :=
  (∀ (p : Port) (s : State),
      (∀ n f hi lo pattern, Executing s p 0x30#8 ([n, f, hi, lo] ++ codeBytes pattern) →
        ((∀ t g, tableOfByte n = some t → fieldOfByte f = some g → hasFindField t g = false) →
          exec (.find p) s = .next (s.withResult p [0x03#8])) ∧
        (∀ t g, tableOfByte n = some t → fieldOfByte f = some g → hasFindField t g = true →
          exec (.find p) s = .next (
            if ∃ d ∈ digits pattern, 10 ≤ d ∧ d ≤ 14 then s.withResult p [0x03#8]
            else if (s.port p).search.isSome then s.withResult p [0x06#8]
            else (s.putPort p { s.port p with
              search := some ⟨t, g, pattern, min (hi.toNat * 256 + lo.toNat) (s.rm.count t)⟩ }).withResult p [0x00#8]))) ∧
      (Executing s p 0x31#8 [] →
        ((s.port p).search = none → exec (.abortFind p) s = .next (s.withResult p [0x05#8])) ∧
        ((s.port p).search ≠ none →
          exec (.abortFind p) s = .next
            ((post p ⟨.findDone, none, none, none, some (.search .aborted)⟩
              (s.putPort p { s.port p with search := none })).withResult p [0x00#8]))) ∧
      (∀ x, s.running = true → (s.port p).search = some x →
        let ended := s.putPort p { s.port p with search := none }
        let fits : Nat → Prop := fun i =>
          ∃ c, (s.rm.fieldCodes x.table x.field)[i]? = some (some c) ∧
            ∀ q ∈ (digits x.pattern).zip (digits c), q.1 = 15 ∨ q.1 = q.2
        (∀ i, x.position ≤ i → fits i → (∀ j, x.position ≤ j → j < i → ¬ fits j) →
          exec (.findDone p) s =
            .next (post p ⟨.findDone, none, none, some (.number i), some (.search .hit)⟩ ended)) ∧
        ((∀ i, x.position ≤ i → ¬ fits i) →
          exec (.findDone p) s = .next (post p ⟨.findDone, none, none, none, some (.search .miss)⟩ ended)))) ∧
  (∀ (p : Port) (s : State) (n hi lo : Byte), Executing s p 0x32#8 [n, hi, lo] →
      let i := hi.toNat * 256 + lo.toNat
      (5 < n.toNat → exec (.readEntry p) s = .next (s.withResult p [0x03#8])) ∧
      (∀ t, tableOfByte n = some t → s.rm.count t ≤ i → exec (.readEntry p) s = .next (s.withResult p [0x07#8])) ∧
      (∀ t, tableOfByte n = some t → i < s.rm.count t →
        ∃ bytes, exec (.readEntry p) s = .next (s.withResult p (0x00#8 :: bytes)) ∧ s.rm.entryBytes t i = some bytes ∧
          bytes.length =
            (match t with | .journal => 30 | .loans => 27 | .blocks => 11 | .flags => 17 | .balances => 10 | .closures => 2)) ∧
      let reads : List Byte → Prop := fun bytes => exec (.readEntry p) s = .next (s.withResult p (0x00#8 :: bytes))
      (∀ r, n = 0x00#8 → s.rm.journal[i]? = some r →
        ∃ kind place flags : Byte,
          reads (be16 r.seq ++ [kind] ++ be16 r.day ++ be16 r.minute ++ [place, flags] ++ codeOrAbsent r.borrower ++
            codeOrAbsent r.item ++ be16OrAbsent r.dueDay ++ be16OrAbsent r.dueMinute ++ be24OrAbsent r.amount) ∧
          kind.toNat = (if r.sent then 128 else 0) +
            (match r.kind with
             | .checkout => 1 | .returned => 2 | .renewed => 3 | .fine => 4 | .payment => 5 | .override => 6 | .blockSet => 7
             | .blockClear => 8 | .flagSet => 9 | .flagClear => 10) ∧
          place.toNat / 16 = (match r.port with | .A => 0 | .B => 1) ∧
          place.toNat % 16 = (match r.station with | some .s0 => 0 | some .s1 => 1 | some .s2 => 2 | some .s3 => 3 | none => 15) ∧
          flags.getLsbD 0 = r.flags.notTabled ∧ flags.getLsbD 1 = r.flags.overridden ∧ flags.getLsbD 2 = r.flags.hour ∧
          flags.getLsbD 3 = r.flags.implicit ∧ flags.getLsbD 4 = r.flags.unknown ∧ flags.getLsbD 5 = r.flags.foreign ∧
          flags.getLsbD 6 = r.flags.untracked ∧ flags.getLsbD 7 = r.flags.localLogic) ∧
      (∀ l, n = 0x01#8 → s.rm.loans[i]? = some l →
        reads (codeBytes l.item ++ codeBytes l.borrower ++ [BitVec.ofNat 8 l.itemClass.val, BitVec.ofNat 8 l.borrowerClass.val] ++
          be16 l.outDay ++ be16 l.outMinute ++ be16 l.dueDay ++ be16OrAbsent l.dueMinute ++ [BitVec.ofNat 8 l.renewals] ++
          be16 l.seq)) ∧
      (∀ b, n = 0x02#8 → s.rm.blocks[i]? = some b →
        reads (codeBytes b.borrower ++
          [match b.reason with
            | .centralFines => 0x01#8 | .lostCard => 0x02#8 | .expired => 0x03#8 | .staff => 0x04#8 | .localFines => 0x05#8
            | .other => 0x06#8,
           match b.origin with | .central => 0x01#8 | .staff => 0x02#8 | .localLogic => 0x03#8] ++ be16 b.dayAdded)) ∧
      (∀ f, n = 0x03#8 → s.rm.flags[i]? = some f →
        reads (codeBytes f.item ++
          [match f.flag with | .reserved => 0x01#8 | .withdrawn => 0x02#8 | .missing => 0x03#8 | .reference => 0x04#8] ++
          codeOrAbsent f.reserver ++ be16 f.daySet)) ∧
      (∀ b, n = 0x04#8 → s.rm.balances[i]? = some b → reads (codeBytes b.borrower ++ be24 b.amount)) ∧
      (∀ day, n = 0x05#8 → s.rm.closures[i]? = some day → reads (be16 day))) ∧
  (∀ (x : Nat) (c : Code),
      be16 x = [BitVec.ofNat 8 (x / 256), BitVec.ofNat 8 x] ∧ be24 x = BitVec.ofNat 8 (x / 65536) :: be16 x ∧
      codeBytes c = [6, 5, 4, 3, 2, 1, 0].map (fun k => BitVec.ofNat 8 (c.toNat / 256 ^ k)) ∧
      be16OrAbsent (some x) = be16 x ∧ be16OrAbsent none = List.replicate 2 0xFF#8 ∧ be24OrAbsent (some x) = be24 x ∧
      be24OrAbsent none = List.replicate 3 0xFF#8 ∧ codeOrAbsent (some c) = codeBytes c ∧
      codeOrAbsent none = List.replicate 7 0xFF#8) ∧
  (∀ (l : List Code) (x : Code) (i position : Nat),
      (i ≤ l.length →
        (l.take i ++ x :: l.drop i).drop (insertedAt i position) =
          if i < position then l.drop position else (l.take i).drop position ++ x :: l.drop i) ∧
      (i < l.length →
        (l.take i ++ l.drop (i + 1)).drop (removedAt i position) =
          if i < position then l.drop position else (l.take i).drop position ++ l.drop (i + 1))) ∧
  (∀ (t : Table) (f : Nat → Nat) (s : State),
      moveSearches t f s = { s with ports := (moveSearches t f s).ports } ∧
      ∀ p, (moveSearches t f s).port p = { s.port p with
        search := (s.port p).search.map (fun x => if x.table = t then { x with position := f x.position } else x) })

/-- RECORD PAYMENT (R89, R90, R92, R95), with its checks in order: one PAYMENT, the balance floored at 0, the threshold test, and
the balance, or its absent value for an UNTRACKED payment, as the result; BLOCK-LIST-FULL where the test finds the list full (R49),
JOURNAL-HIGH where it is due (R38), and the searches in the BLOCK LIST moved with its entry (R41). -/
def Obligations.RecordPaymentPaysTheBalance : Prop :=
  ∀ (p : Port) (b : Code) (c2 c1 c0 : Byte) (s : State), Executing s p 0x33#8 (codeBytes b ++ [c2, c1, c0]) →
    (s.port p).role = .staff →
    let cents := c2.toNat * 65536 + c1.toNat * 256 + c0.toNat
    let after := if s.tracks b then s.balanceOf b - cents else s.balanceOf b
    let needed := 1 + (if (s.testCallsFor b after).isSome then 1 else 0)
    (borrowerValid b = false → exec (.recordPayment p) s = .next (s.withResult p [0x0C#8])) ∧
    (borrowerValid b = true →
      (cents = 0 ∨ 999999 < cents → exec (.recordPayment p) s = .next (s.withResult p [0x03#8])) ∧
      (cents ≠ 0 → cents ≤ 999999 →
        (s.pfail = true → exec (.recordPayment p) s = .next (s.withResult p [0x06#8])) ∧
        (s.pfail = false → 4096 < s.rm.journal.length + needed →
          exec (.recordPayment p) s = .next (s.withResult p [0x0F#8])) ∧
        (s.pfail = false → s.rm.journal.length + needed ≤ 4096 →
          ∃ t : State, exec (.recordPayment p) s = .next (t.withResult p
              (0x00#8 :: if s.tracks b then be24 after else [0xFF#8, 0xFF#8, 0xFF#8])) ∧
            t.rm.journal = s.rm.journal ++
              ⟨s.rm.nextSeq, .payment, s.clock.day, s.clock.minute, none, p, { untracked := !s.tracks b }, some b,
                none, none, none, some cents, false⟩ ::
              s.blockRecords ((s.rm.nextSeq + 1) % 65536) none p b after ∧
            t.balanceOf b = after ∧ (∀ other, other ≠ b → t.balanceOf other = s.balanceOf other) ∧
            BlocksFollowTest s t b after ∧
            t.rm = { s.rm with
              journal := t.rm.journal, blocks := t.rm.blocks, balances := s.balancesCharged b (fun x => x - cents),
              nextSeq := (s.rm.nextSeq + (t.rm.journal.length - s.rm.journal.length)) % 65536 } ∧
            t = { s with rm := t.rm, ports := t.ports, armed := t.armed } ∧ TellsAtEnd (s.testedPorts b after) t)))

/-- The staff commands on the BLOCK LIST (R48, R51) and on the ITEM FLAG TABLE (R56, R57, R195), with their checks in order;
JOURNAL-HIGH ends the step that writes the record where it is due (R38), and the searches in the table move with an entry that joins or
leaves it (R41). -/
def Obligations.BlockAndFlagCommands : Prop :=
  (∀ (p : Port) (b : Code) (s : State), (s.port p).role = .staff →
      (∀ r, Executing s p 0x34#8 (codeBytes b ++ [r]) →
        (borrowerValid b = false → exec (.addBlock p) s = .next (s.withResult p [0x0C#8])) ∧
        (borrowerValid b = true →
          (r = 0x00#8 ∨ 6 < r.toNat → exec (.addBlock p) s = .next (s.withResult p [0x03#8])) ∧
          (∀ reason, r = BlockReason.code reason →
            (s.pfail = true → exec (.addBlock p) s = .next (s.withResult p [0x06#8])) ∧
            (s.pfail = false →
              ((s.blockOf b).isSome = true → exec (.addBlock p) s = .next (s.withResult p [0x0A#8])) ∧
              (s.blockOf b = none →
                (1024 ≤ s.rm.blocks.length → exec (.addBlock p) s = .next (s.withResult p [0x09#8])) ∧
                (s.rm.blocks.length < 1024 →
                  (4096 ≤ s.rm.journal.length → exec (.addBlock p) s = .next (s.withResult p [0x0F#8])) ∧
                  (s.rm.journal.length < 4096 →
                    ∃ t : State, exec (.addBlock p) s = .next (t.withResult p [0x00#8]) ∧
                      t.rm.journal = s.rm.journal ++ [⟨s.rm.nextSeq, .blockSet, s.clock.day, s.clock.minute, none, p, {},
                        some b, none, none, none, some r.toNat, false⟩] ∧
                      t.rm.nextSeq = (s.rm.nextSeq + 1) % 65536 ∧
                      t.blockOf b = some ⟨b, reason, .staff, s.clock.day⟩ ∧
                      (∀ other, other ≠ b → t.blockOf other = s.blockOf other) ∧
                      t.rm = { s.rm with journal := t.rm.journal, nextSeq := t.rm.nextSeq, blocks := t.rm.blocks } ∧
                      t = { s with rm := t.rm, ports := t.ports, armed := t.armed } ∧
                      TellsAtEnd (moveSearches .blocks (insertedAt (rank Block.key b.toNat s.rm.blocks)) s) t))))))) ∧
      (Executing s p 0x35#8 (codeBytes b) →
        (borrowerValid b = false → exec (.removeBlock p) s = .next (s.withResult p [0x0C#8])) ∧
        (borrowerValid b = true →
          (s.pfail = true → exec (.removeBlock p) s = .next (s.withResult p [0x06#8])) ∧
          (s.pfail = false →
            (s.blockOf b = none → exec (.removeBlock p) s = .next (s.withResult p [0x0B#8])) ∧
            ((s.blockOf b).isSome = true →
              (4096 ≤ s.rm.journal.length → exec (.removeBlock p) s = .next (s.withResult p [0x0F#8])) ∧
              (s.rm.journal.length < 4096 →
                ∃ t : State, exec (.removeBlock p) s = .next (t.withResult p [0x00#8]) ∧
                  t.rm.journal = s.rm.journal ++ [⟨s.rm.nextSeq, .blockClear, s.clock.day, s.clock.minute, none, p, {},
                    some b, none, none, none, none, false⟩] ∧
                  t.rm.nextSeq = (s.rm.nextSeq + 1) % 65536 ∧ t.blockOf b = none ∧
                  (∀ other, other ≠ b → t.blockOf other = s.blockOf other) ∧
                  t.rm = { s.rm with journal := t.rm.journal, nextSeq := t.rm.nextSeq, blocks := t.rm.blocks } ∧
                  t = { s with rm := t.rm, ports := t.ports, armed := t.armed } ∧
                  TellsAtEnd (moveSearches .blocks (removedAt (rank Block.key b.toNat s.rm.blocks)) s) t)))))) ∧
  (∀ (p : Port) (item b : Code) (s : State), (s.port p).role = .staff →
      (∀ f, Executing s p 0x36#8 (codeBytes item ++ [f] ++ codeBytes b) →
        (itemValid item = false → exec (.setItemFlag p) s = .next (s.withResult p [0x0C#8])) ∧
        (itemValid item = true →
          (f = 0x00#8 ∨ 4 < f.toNat → exec (.setItemFlag p) s = .next (s.withResult p [0x03#8])) ∧
          (f = 0x01#8 → b = BitVec.allOnes 56 → exec (.setItemFlag p) s = .next (s.withResult p [0x03#8])) ∧
          (f = 0x01#8 → b ≠ BitVec.allOnes 56 → borrowerValid b = false →
            exec (.setItemFlag p) s = .next (s.withResult p [0x0C#8])) ∧
          (∀ flag, f = ItemFlag.code flag → (flag = .reserved → borrowerValid b = true) →
            (s.pfail = true → exec (.setItemFlag p) s = .next (s.withResult p [0x06#8])) ∧
            (s.pfail = false →
              (s.flagOf item = none → 512 ≤ s.rm.flags.length →
                exec (.setItemFlag p) s = .next (s.withResult p [0x09#8])) ∧
              ((s.flagOf item).isSome = true ∨ s.rm.flags.length < 512 →
                (4096 ≤ s.rm.journal.length → exec (.setItemFlag p) s = .next (s.withResult p [0x0F#8])) ∧
                (s.rm.journal.length < 4096 →
                  let reserver := if flag = .reserved then some b else none
                  ∃ t : State, exec (.setItemFlag p) s = .next (t.withResult p [0x00#8]) ∧
                    t.rm.journal = s.rm.journal ++ [⟨s.rm.nextSeq, .flagSet, s.clock.day, s.clock.minute, none, p, {},
                      reserver, some item, none, none, some f.toNat, false⟩] ∧
                    t.rm.nextSeq = (s.rm.nextSeq + 1) % 65536 ∧
                    t.flagOf item = some ⟨item, flag, reserver, s.clock.day⟩ ∧
                    (∀ other, other ≠ item → t.flagOf other = s.flagOf other) ∧
                    t.rm = { s.rm with journal := t.rm.journal, nextSeq := t.rm.nextSeq, flags := t.rm.flags } ∧
                    t = { s with rm := t.rm, ports := t.ports, armed := t.armed } ∧
                    TellsAtEnd (if (s.flagOf item).isSome then s else
                      moveSearches .flags (insertedAt (rank FlagEntry.key item.toNat s.rm.flags)) s) t)))))) ∧
      (Executing s p 0x37#8 (codeBytes item) →
        (itemValid item = false → exec (.clearItemFlag p) s = .next (s.withResult p [0x0C#8])) ∧
        (itemValid item = true →
          (s.pfail = true → exec (.clearItemFlag p) s = .next (s.withResult p [0x06#8])) ∧
          (s.pfail = false →
            (s.flagOf item = none → exec (.clearItemFlag p) s = .next (s.withResult p [0x0B#8])) ∧
            ((s.flagOf item).isSome = true →
              (4096 ≤ s.rm.journal.length → exec (.clearItemFlag p) s = .next (s.withResult p [0x0F#8])) ∧
              (s.rm.journal.length < 4096 →
                ∃ t : State, exec (.clearItemFlag p) s = .next (t.withResult p [0x00#8]) ∧
                  t.rm.journal = s.rm.journal ++ [⟨s.rm.nextSeq, .flagClear, s.clock.day, s.clock.minute, none, p, {}, none,
                    some item, none, none, none, false⟩] ∧
                  t.rm.nextSeq = (s.rm.nextSeq + 1) % 65536 ∧ t.flagOf item = none ∧
                  (∀ other, other ≠ item → t.flagOf other = s.flagOf other) ∧
                  t.rm = { s.rm with journal := t.rm.journal, nextSeq := t.rm.nextSeq, flags := t.rm.flags } ∧
                  t = { s with rm := t.rm, ports := t.ports, armed := t.armed } ∧
                  TellsAtEnd (moveSearches .flags (removedAt (rank FlagEntry.key item.toNat s.rm.flags)) s) t))))))

/-! ### The calendar and the settings -/

/-- SET CLOCK (R62, R64, R67): a minute above 1439 is refused; otherwise the clock stands at the instant with second count 0 and UNSET
clear, a new day purges the closure list or, while PFAIL is high, leaves the purge to wait, and the instant is handed on. NEW MINUTE
(R61, R62, R67, R163): the clock advances, whatever its second count, which is the model's choice (log entry 34), a rollover purges the
closure list or leaves the purge to wait, the retry timer of an ARMED link counts down and the instant is handed on; at the last
minute of the calendar the clock holds. An instant handed on is judged by mode control and by the link (R153, R162, R188, R189;
State.handedOn): where neither finds a boundary nothing else changes, and at a window boundary the mode changes as SET MODE changes it
and the link begins its run or leaves ARMED. While the part is stopped the clock alone advances (R191, 10.2): that neither the purge of
the closures nor anything else follows from it then is the model's reading (log entries 12 and 31). -/
def Obligations.ClockIsSetAndAdvances : Prop :=
  (∀ (p : Port) (d1 d0 m1 m0 : Byte) (s : State), Executing s p 0x40#8 [d1, d0, m1, m0] → (s.port p).role = .staff →
      let day := d1.toNat * 256 + d0.toNat
      let minute := m1.toNat * 256 + m0.toNat
      (1439 < minute → exec (.setClock p) s = .next (s.withResult p [0x03#8])) ∧
      (minute ≤ 1439 →
        exec (.setClock p) s = .next ((s.clockSetTo day minute).withResult p [0x00#8]))) ∧
  (∀ (s : State),
      (65535 ≤ s.clock.day → 1439 ≤ s.clock.minute → exec .newMinute s = .next s) ∧
      (s.clock.day < 65535 ∨ s.clock.minute < 1439 →
        let advanced : Clock :=
          if s.clock.minute < 1439 then ⟨s.clock.day, s.clock.minute + 1, 0, s.clock.unset⟩
          else ⟨s.clock.day + 1, 0, 0, s.clock.unset⟩
        (s.running = false → exec .newMinute s = .next { s with clock := advanced }) ∧
        (s.running = true →
          exec .newMinute s = .next ({ s with
            clock := advanced,
            rm := { s.rm with
              closures := if 1439 ≤ s.clock.minute ∧ s.pfail = false then
                  s.rm.closures.filter (fun c => decide (advanced.day - c ≤ 120))
                else s.rm.closures },
            purgeWaits := s.purgeWaits || (decide (1439 ≤ s.clock.minute) && s.pfail),
            link := if s.link.run = .armed then { s.link with retry := s.link.retry.map (· - 1) } else s.link } :
              State).handedOn))) ∧
  (∀ (s : State),
      let isOpen := !s.clock.unset && inWindow s.config.windowStart s.config.windowEnd s.clock.minute
      let mode := if isOpen then Mode.night else .day
      (s.modeWindow = isOpen → s.link.windowOpen = isOpen → s.handedOn = s) ∧
      (s.modeWindow ≠ isOpen → s.link.windowOpen = isOpen →
        s.handedOn = changeMode mode { s with modeWindow := isOpen, modeHold := false }) ∧
      (s.modeWindow ≠ isOpen → s.mode = mode →
        s.handedOn = { s with modeWindow := isOpen, modeHold := false, link := s.handedOn.link }) ∧
      (s.link.windowOpen = false → isOpen = true → s.link.run = .idle →
        s.handedOn.link = { s.begun.link with windowOpen := true }) ∧
      (s.link.windowOpen = true → isOpen = false → s.link.run = .armed →
        s.handedOn.link = { s.link with windowOpen := false, run := .idle, retry := none }) ∧
      (s.link.run ≠ .idle → s.link.run ≠ .armed → s.handedOn.link = { s.link with windowOpen := isOpen }))

/-- SET MODE (R190): a value that is neither 0 nor 1 is refused; otherwise the hold is set and the mode takes the value. A change of mode
(R22, R124, R189): entering NIGHT posts MODE-CHANGE to both ports before every other event, disables the decoders, clears the
reopen-pending codes and ends the open transactions one after another in ascending station order, without a slip, with their slip
queued, or into CLOSING where the SLIP QUEUE is full, and nothing else changes; entering DAY sets the decoders of present stations to
WAIT-QUIET; and a mode that is not new changes nothing. Where a slip finds the printer READY without paper, PRINTER-FAULT comes last: the
model's choice (log entry 7). -/
def Obligations.ChangeOfModeReachesEveryBlock : Prop :=
  (∀ (p : Port) (b : Byte) (s : State), Executing s p 0x70#8 [b] → (s.port p).role = .staff →
      exec (.setMode p) s = .next (
        if b = 0x00#8 then (changeMode .day { s with modeHold := true }).withResult p [0x00#8]
        else if b = 0x01#8 then (changeMode .night { s with modeHold := true }).withResult p [0x00#8]
        else s.withResult p [0x03#8])) ∧
  (∀ (s : State),
      (changeMode s.mode s = s) ∧
      (s.mode = .day →
        let e : Event := ⟨.modeChange, none, none, none, some (.mode .night)⟩
        let u := { post .B e (post .A e s) with
          mode := .night,
          stations := ⟨{ s.station .s0 with decoder := .disabled }, { s.station .s1 with decoder := .disabled },
            { s.station .s2 with decoder := .disabled }, { s.station .s3 with decoder := .disabled }⟩,
          slots := ⟨{ s.slot .s0 with reopen := none }, { s.slot .s1 with reopen := none }, { s.slot .s2 with reopen := none },
            { s.slot .s3 with reopen := none }⟩ }
        let t := changeMode .night s
        t = ((((u.slotEnded .s0).slotEnded .s1).slotEnded .s2).slotEnded .s3).toldFault s ∧
        t.mode = .night ∧ t.rm = s.rm ∧ t.link = s.link ∧ t.config = s.config ∧
          (∀ st, (t.station st).decoder = .disabled ∧ (t.station st).scans = (s.station st).scans ∧
            (t.slot st).state.isOpen = false ∧ (t.slot st).reopen = none ∧
            ((s.slot st).state = .closing → t.slot st = { s.slot st with reopen := none })) ∧
          (∀ p, (s.port p).events = [] →
            (t.port p).events.head? = some ⟨.modeChange, none, none, none, some (.mode .night)⟩)) ∧
      (s.mode = .night →
        let e : Event := ⟨.modeChange, none, none, none, some (.mode .day)⟩
        changeMode .day s = { s with
          mode := .day, ports := (post .B e (post .A e s)).ports, stations := (changeMode .day s).stations } ∧
          ∀ st, (changeMode .day s).station st =
            { s.station st with decoder := if (s.station st).present then .waitQuiet else .disabled }))

/-- SET HOURS (R69), SET PERIOD (R74), SET ITEM CLASS (R73), SET BORROWER CLASS (R75) and SET THRESHOLD (R94): a selector out of range is
refused, a number above its range is stored as the rule clamps it, and the settings are written with their check word (R194), nothing
else changing. ADD CLOSURE and REMOVE CLOSURE (R62, R70, R71), with their checks in order. -/
def Obligations.CalendarSettingsAndClosures : Prop :=
  (∀ (p : Port) (s : State), (s.port p).role = .staff →
      (∀ w o1 o0 c1 c0, Executing s p 0x42#8 [w, o1, o0, c1, c0] →
        let openAt := o1.toNat * 256 + o0.toNat
        let closeAt := c1.toNat * 256 + c0.toNat
        (6 < w.toNat ∨ 1440 < closeAt ∨ closeAt < openAt → exec (.setHours p) s = .next (s.withResult p [0x03#8])) ∧
        (∀ h : w.toNat < 7, closeAt ≤ 1440 → openAt ≤ closeAt →
          exec (.setHours p) s = .next
            ((s.withConfig { s.config with hours := s.config.hours.set w.toNat ⟨openAt, closeAt⟩ }).withResult p [0x00#8]))) ∧
      (∀ ic bc n, Executing s p 0x45#8 [ic, bc, n] →
        (15 < ic.toNat ∨ 7 < bc.toNat → exec (.setPeriod p) s = .next (s.withResult p [0x03#8])) ∧
        (∀ (h : ic.toNat < 16) (h' : bc.toNat < 8),
          let stored := if (s.config.itemClasses.get ⟨ic.toNat, h⟩).kind = .hour then min n.toNat 72 else n.toNat
          exec (.setPeriod p) s = .next
            ((s.withConfig { s.config with
              periods := s.config.periods.set ic.toNat ((s.config.periods.get ⟨ic.toNat, h⟩).set bc.toNat stored) }).withResult
                p [0x00#8]))) ∧
      (∀ ic k g r1 r0 c1 c0 n, Executing s p 0x46#8 [ic, k, g, r1, r0, c1, c0, n] →
        (15 < ic.toNat ∨ 1 < k.toNat → exec (.setItemClass p) s = .next (s.withResult p [0x03#8])) ∧
        (∀ (h : ic.toNat < 16) (kind : ClassKind), k = kindCode kind →
          let row : ItemClass :=
            ⟨kind, min g.toNat 15, min (r1.toNat * 256 + r0.toNat) 2000, min (c1.toNat * 256 + c0.toNat) 65000,
              min n.toNat 15⟩
          let periods := s.config.periods.get ⟨ic.toNat, h⟩
          let kept :=
            if (s.config.itemClasses.get ⟨ic.toNat, h⟩).kind = .day ∧ kind = .hour then periods.map (fun x => min x 72)
            else periods
          exec (.setItemClass p) s = .next
            ((s.withConfig { s.config with
              itemClasses := s.config.itemClasses.set ic.toNat row,
              periods := s.config.periods.set ic.toNat kept }).withResult p [0x00#8]))) ∧
      (∀ bc l t1 t0, Executing s p 0x47#8 [bc, l, t1, t0] →
        (7 < bc.toNat → exec (.setBorrowerClass p) s = .next (s.withResult p [0x03#8])) ∧
        (∀ h : bc.toNat < 8,
          let term := t1.toNat * 256 + t0.toNat
          exec (.setBorrowerClass p) s = .next
            ((s.withConfig { s.config with
              borrowerClasses := s.config.borrowerClasses.set bc.toNat
                ⟨l.toNat, if term = 65535 then none else some term⟩ }).withResult p [0x00#8]))) ∧
      (∀ a2 a1 a0, Executing s p 0x49#8 [a2, a1, a0] →
        exec (.setThreshold p) s = .next
          ((s.withConfig { s.config with
            threshold := min (a2.toNat * 65536 + a1.toNat * 256 + a0.toNat) 999999 }).withResult p [0x00#8]))) ∧
  (∀ (p : Port) (d1 d0 : Byte) (s : State), (s.port p).role = .staff →
      let day := d1.toNat * 256 + d0.toNat
      (Executing s p 0x43#8 [d1, d0] →
        (day + 120 < s.clock.day → exec (.addClosure p) s = .next (s.withResult p [0x03#8])) ∧
        (s.clock.day ≤ day + 120 →
          (s.pfail = true → exec (.addClosure p) s = .next (s.withResult p [0x06#8])) ∧
          (s.pfail = false →
            (day ∈ s.rm.closures → exec (.addClosure p) s = .next (s.withResult p [0x0A#8])) ∧
            (day ∉ s.rm.closures → 64 ≤ s.rm.closures.length →
              exec (.addClosure p) s = .next (s.withResult p [0x09#8])) ∧
            (day ∉ s.rm.closures → s.rm.closures.length < 64 →
              ∃ l, exec (.addClosure p) s =
                  .next ({ s with rm := { s.rm with closures := l } }.withResult p [0x00#8]) ∧
                l.length = s.rm.closures.length + 1 ∧ (∀ x, x ∈ l ↔ x = day ∨ x ∈ s.rm.closures) ∧
                (Rising id s.rm.closures → Rising id l))))) ∧
      (Executing s p 0x44#8 [d1, d0] →
        (s.pfail = true → exec (.removeClosure p) s = .next (s.withResult p [0x06#8])) ∧
        (s.pfail = false →
          (day ∉ s.rm.closures → exec (.removeClosure p) s = .next (s.withResult p [0x0B#8])) ∧
          (day ∈ s.rm.closures →
            exec (.removeClosure p) s = .next
              ({ s with rm := { s.rm with closures := s.rm.closures.filter (fun x => x != day) } }.withResult p [0x00#8])))))

/-- COMPUTE DUE (R77, R82): the outcome of the due computation at the clock's instant, with its kind, its due and its facts, which is the due
that a checkout at that instant would give; at CALENDAR-END the facts byte carries ELAPSED alone or nothing, as the outcome says
(log entry 32). The due instant itself. DAY kind (R78, R79): the raw day is the loan's day plus the period, cut to 65,535, or a term
limit before it; unclamped the due day is the first open day from there on, within 14 days and the calendar, and clamped the last
open day up to there, within 14 days and after the loan's day, or the end of that search, noted CLOSED-DUE. HOUR kind (R80, R81): the
due instant ends the opening minute that completes the period's hours of opening time from the loan's instant on; where the 14 days
after the loan's day hold too few, it lies the period's hours of plain time after the loan's instant, noted ELAPSED, or is
CALENDAR-END, whose own ELAPSED is open (log entry 32). A period of 0 is NOT-LOANABLE. -/
def Obligations.ComputeDueAndTheDueInstant : Prop :=
  (∀ (p : Port) (ic bc : Byte) (s : State), Executing s p 0x48#8 [ic, bc] →
      (15 < ic.toNat ∨ 7 < bc.toNat → exec (.computeDue p) s = .next (s.withResult p [0x03#8])) ∧
      (∀ (h : ic.toNat < 16) (h' : bc.toNat < 8),
        let kind := (s.config.itemClasses.get ⟨ic.toNat, h⟩).kind
        let outcome := s.dueAt s.clock.day s.clock.minute ⟨ic.toNat, h⟩ ⟨bc.toNat, h'⟩
        (s.clock.unset = true → exec (.computeDue p) s = .next (s.withResult p [0x0D#8])) ∧
        (s.clock.unset = false →
          (outcome = .notLoanable → exec (.computeDue p) s =
            .next (s.withResult p [0x00#8, 0x01#8, kindCode kind, 0xFF#8, 0xFF#8, 0xFF#8, 0xFF#8, 0x00#8])) ∧
          (∀ elapsed, outcome = .calendarEnd elapsed → exec (.computeDue p) s =
            .next (s.withResult p [0x00#8, 0x02#8, kindCode kind, 0xFF#8, 0xFF#8, 0xFF#8, 0xFF#8,
              if elapsed then 0x04#8 else 0x00#8])) ∧
          (∀ day minute facts, outcome = .due day minute facts → exec (.computeDue p) s =
            .next (s.withResult p ([0x00#8, 0x00#8, kindCode kind] ++ be16 day ++ be16OrAbsent minute ++
              [BitVec.ofNat 8 ((if facts.clamped then 1 else 0) + (if facts.closedDue then 2 else 0) +
                (if facts.elapsed then 4 else 0))])))))) ∧
  (∀ (s : State) (d m : Nat) (ic : Fin 16) (bc : Fin 8), d ≤ 65535 → m ≤ 1439 → SettingsInRange s.config →
      let period := (s.config.periods.get ic).get bc
      let term := (s.config.borrowerClasses.get bc).termLimit
      let isOpen := isOpenDay s.config s.rm.closures
      let due := s.dueAt d m ic bc
      (period = 0 → due = .notLoanable) ∧
      (period ≠ 0 → (s.config.itemClasses.get ic).kind = .day →
        let raw := min (d + period) 65535
        (d = 65535 → due = .calendarEnd false) ∧
        (d < 65535 →
          ((∀ l, term = some l → l ≤ d ∨ raw ≤ l) →
            ∃ day, due = .due day none { closedDue := !isOpen day } ∧ raw ≤ day ∧ day ≤ min (raw + 14) 65535 ∧
              (∀ x, raw ≤ x → x < day → isOpen x = false) ∧ (isOpen day = true ∨ day = min (raw + 14) 65535)) ∧
          (∀ l, term = some l → d < l → l < raw →
            ∃ day, due = .due day none { clamped := true, closedDue := !isOpen day } ∧ max (l - 14) (d + 1) ≤ day ∧ day ≤ l ∧
              (∀ x, day < x → x ≤ l → isOpen x = false) ∧ (isOpen day = true ∨ day = max (l - 14) (d + 1))))) ∧
      (period ≠ 0 → (s.config.itemClasses.get ic).kind = .hour →
        let now := d * 1440 + m
        let hours := openMinutes s.config s.rm.closures
        let carried := now + period * 60
        (period * 60 ≤ hours now ((min (d + 14) 65535 + 1) * 1440) →
          ∃ day mm, due = .due day (some mm) {} ∧ 1 ≤ mm ∧ mm ≤ 1440 ∧ d ≤ day ∧ day ≤ min (d + 14) 65535 ∧
            hours now (day * 1440 + mm) = period * 60 ∧ openMinute s.config s.rm.closures (day * 1440 + mm - 1) = true) ∧
        (hours now ((min (d + 14) 65535 + 1) * 1440) < period * 60 →
          (carried < 65536 * 1440 → due = .due (carried / 1440) (some (carried % 1440)) { elapsed := true }) ∧
          (65536 * 1440 ≤ carried → ∃ elapsed, due = .calendarEnd elapsed))))

/-- A day fine (R86): nothing up to the due day, and then the open days after it up to the fine day less the grace, at the rate and
no more than the cap. An hour fine (R87, R88): nothing up to the due instant, and then the minutes of opening hours from it to the
fine's instant, in hours begun, less the grace, at the rate and no more than the cap. -/
def Obligations.FinesFollowTheirRules : Prop :=
  ∀ (s : State) (l : Loan),
    let row := s.config.itemClasses.get l.itemClass
    let now := s.clock.day * 1440 + s.clock.minute
    s.fineOf l ≤ row.cap ∧
    (l.dueMinute = none →
      (s.clock.day ≤ l.dueDay → s.fineOf l = 0) ∧
      (l.dueDay < s.clock.day →
        s.fineOf l = min (((((List.range (s.clock.day + 1)).filter (fun d =>
          decide (l.dueDay < d) && isOpenDay s.config s.rm.closures d)).length) - row.grace) * row.rate) row.cap)) ∧
    (∀ um, l.dueMinute = some um →
      (now ≤ l.dueDay * 1440 + um → s.fineOf l = 0) ∧
      (um ≤ 1440 → s.clock.Legal → SettingsInRange s.config →
        let late := openMinutes s.config s.rm.closures (l.dueDay * 1440 + um) now
        s.fineOf l = min (((late + 59) / 60 - row.grace) * row.rate) row.cap))

/-! ### The SLIP UNIT -/

/-- The contents of a slip. A closing slot composes it (R122, R127): its kind by the mode, the station, the owner as queuing port, the
instant, the draft's lines in order, the sum of their fines, and, but for a RETURN, the patron and the balance as it stands. Printed
(R129, TABLE 7-3, TABLE 7-4), each line of 32 characters, it is the header, the date and time, the kind line, the borrower of a LOAN
or RENEW slip, the item entries or a NOTE's text lines, and the footer; a COPY, or a slip marked by a paper-out, reads COPY with the
kind and number of its original. The date of a day (R83) and the forms of dates, dues, amounts and numbers (R84, 7.2). That the
footer's item count stands in decimal digits without leading zeros is the model's choice (log entry 36). -/
def Obligations.SlipsAreComposedAndPrinted : Prop :=
  (∀ (st : Station) (p : Port) (m : TxMode) (s : State), (s.slot st).mode = some m → s.owner st = some p →
      let isReturn := m = .returning
      composeSlip st s =
        { number := none,
          kind := match m with | .checkout => .loan | .returning => .returned | .renewing => .renewal,
          copyOf := none, copyMark := false, station := some st, port := p, header := s.config.header, day := s.clock.day,
          minute := s.clock.minute, borrower := if isReturn then none else (s.slot st).patron, items := (s.slot st).draft,
          text := [], finesTotal := ((s.slot st).draft.map ItemLine.fine).sum,
          balance := if isReturn then none else (s.slot st).patron.map s.balanceOf }) ∧
  (∀ (sl : Slip) (number : Nat) (original : SlipKind) (first : Nat), sl.number = some number → original ≠ .copy →
      (sl.kind ≠ .copy → original = sl.kind ∧ first = number) → (sl.kind = .copy → sl.copyOf = some (original, first)) →
      let word := match original with
        | .loan => ascii ['L', 'O', 'A', 'N'] | .returned => ascii ['R', 'E', 'T', 'U', 'R', 'N']
        | .renewal => ascii ['R', 'E', 'N', 'E', 'W'] | _ => ascii ['N', 'O', 'T', 'E']
      let kindLine := if sl.kind = .copy ∨ sl.copyMark = true then
          ascii ['C', 'O', 'P', 'Y', ' '] ++ word ++ [0x20#8] ++ padded 4 first
        else word
      let numberLine := ascii ['S', 'L', 'I', 'P', ' '] ++ padded 4 number
      let place := match sl.station with | some st => [BitVec.ofNat 8 (0x30 + stationNumber st)] | none => []
      let foot := numberLine ++ ascii [' ', ' ', 'S', 'T', 'A', 'T', 'I', 'O', 'N', ' '] ++ place ++
        ascii [' ', ' ', 'I', 'T', 'E', 'M', 'S', ' '] ++ decimal sl.items.length
      let fines := ascii ['F', 'I', 'N', 'E', 'S', ' '] ++ amountText sl.finesTotal
      let tail := match sl.borrower with | some b => borrowerTail b | none => []
      let lines := [sl.header, dateText sl.day ++ [0x20#8] ++ timeText sl.minute, kindLine] ++
        (match original with
         | .note => sl.text.map (fun l => l.map (fun b => if 0x20 ≤ b.toNat ∧ b.toNat ≤ 0x7E then b else 0x20#8)) ++ [numberLine]
         | .returned => sl.items.flatMap ItemLine.printed ++ [foot, fines]
         | _ => [ascii ['B', 'O', 'R', 'R', 'O', 'W', 'E', 'R', ' '] ++ tail] ++ sl.items.flatMap ItemLine.printed ++
           [foot, fines ++ ascii [' ', ' ', 'B', 'A', 'L', 'A', 'N', 'C', 'E', ' '] ++ amountText (sl.balance.getD 0)])
      sl.printed = lines.map (fun l => (l ++ List.replicate 32 0x20#8).take 32)) ∧
  (∀ (item : Code) (fine day : Nat) (minute : Option Nat) (b : Code),
      let tail := [8, 9, 10, 11, 12, 13].map (fun k => (BitVec.ofNat 8 (0x30 + digit item k) : Byte))
      let money := ascii ['F', 'I', 'N', 'E', ' '] ++ amountText fine
      let spaces := List.replicate 7 (0x20#8 : Byte)
      ItemLine.printed ⟨item, .out, some (day, minute), 0, none⟩ = [tail ++ [0x20#8] ++ dueText day minute] ∧
      ItemLine.printed ⟨item, .returned, none, fine, none⟩ =
        [tail ++ ascii [' ', 'I', 'N'] ++ if 0 < fine then [0x20#8] ++ money else []] ∧
      ItemLine.printed ⟨item, .returned, none, fine, some b⟩ =
        ItemLine.printed ⟨item, .returned, none, fine, none⟩ ++
          [spaces ++ ascii ['H', 'O', 'L', 'D', ' '] ++ borrowerTail b] ∧
      ItemLine.printed ⟨item, .renewed, some (day, minute), fine, none⟩ =
        [tail ++ ascii [' ', 'R', 'E', 'N', 'E', 'W', 'E', 'D', ' '] ++ dueText day minute] ++
          (if 0 < fine then [spaces ++ money] else []) ∧
      borrowerTail b = 0x85#8 :: [10, 11, 12, 13].map (fun k => (BitVec.ofNat 8 (0x30 + digit b k) : Byte))) ∧
  (∀ n : Nat,
      let date := dateOf n
      let dayMonth := padded 2 date.dayOfMonth ++ [0x20#8] ++ monthName date.month
      let starts := monthStarts (isLeap date.year)
      1990 ≤ date.year ∧ 1 ≤ date.month ∧ date.month ≤ 12 ∧ 1 ≤ date.dayOfMonth ∧
      n = ((List.range' 1990 (date.year - 1990)).map (fun y => if isLeap y then 366 else 365)).sum +
        starts.getD (date.month - 1) 0 + (date.dayOfMonth - 1) ∧
      starts.getD (date.month - 1) 0 + (date.dayOfMonth - 1) <
        starts.getD date.month (if isLeap date.year then 366 else 365) ∧
      dateText n = dayMonth ++ [0x20#8] ++ padded 4 date.year ∧
      dueText n none = ascii ['D', 'U', 'E', ' '] ++ dateText n ∧
      (∀ m, timeText m = padded 2 (m / 60) ++ ascii [':'] ++ padded 2 (m % 60) ∧
        dueText n (some m) = ascii ['D', 'U', 'E', ' '] ++ timeText m ++ [0x20#8] ++ dayMonth)) ∧
  (∀ (w n : Nat),
      let value : List Byte → Nat := fun l => l.foldl (fun v b => v * 10 + (b.toNat - 0x30)) 0
      let digitsOnly : List Byte → Prop := fun l => ∀ b ∈ l, 0x30 ≤ b.toNat ∧ b.toNat ≤ 0x39
      (padded w n).length = w ∧ digitsOnly (padded w n) ∧ value (padded w n) = n % 10 ^ w ∧
      amountText n = decimal (n / 100) ++ ascii ['.'] ++ padded 2 (n % 100) ∧
      (n < 10 ^ 20 →
        digitsOnly (decimal n) ∧ value (decimal n) = n ∧ decimal n ≠ [] ∧ ((decimal n).head? = some 0x30#8 → n = 0)))

/-- PRINT NOTE (R134), REPRINT LAST (R135), SET HEADER (R136) and SET PRINTER (R137): what each refuses, the slip it queues or the
setting it stores, and the slip number it returns. A slip enters the SLIP QUEUE (R127, R128, R130, R133, R138, R141): it takes the next
number and the header of the moment at the newest end, and a LOAN, RETURN or RENEW slip becomes its station's last slip; a sleeping
printer with an empty queue wakes, one that is READY stops its idle timer and prints at once or, without paper, enters NO-PAPER, and in
any other printer state nothing else changes. PRINTER-FAULT then ends the event in which the slip came (R140; log entry 7). -/
def Obligations.SlipCommandsAndTheQueue : Prop :=
  (∀ (p : Port) (s : State),
      (∀ n, Executing s p 0x50#8 [n] → n = 0x00#8 ∨ 6 < n.toNat →
        exec (.printNote p) s = .next (s.withResult p [0x03#8])) ∧
      (∀ lines : List (List Byte), 1 ≤ lines.length → lines.length ≤ 6 → (∀ l ∈ lines, l.length = 32) →
        Executing s p 0x50#8 (BitVec.ofNat 8 lines.length :: lines.flatten) →
        exec (.printNote p) s = .next (
          if 8 ≤ s.slip.queue.length then s.withResult p [0x08#8]
          else ((queueSlip ⟨none, .note, none, false, none, p, s.config.header, s.clock.day, s.clock.minute, none, [], lines, 0,
            none⟩ s).toldFault s).withResult p (0x00#8 :: be16 s.nextSlip))) ∧
      (∀ n, Executing s p 0x51#8 [n] → 3 < n.toNat → exec (.reprintLast p) s = .next (s.withResult p [0x03#8])) ∧
      (∀ st, Executing s p 0x51#8 [stationByte st] →
        (s.owner st ≠ some p → exec (.reprintLast p) s = .next (s.withResult p [0x04#8])) ∧
        (s.owner st = some p → s.slip.lastSlip.get st = none →
          exec (.reprintLast p) s = .next (s.withResult p [0x07#8])) ∧
        (∀ sl number, s.owner st = some p → s.slip.lastSlip.get st = some sl → sl.number = some number →
          exec (.reprintLast p) s = .next (
            if 8 ≤ s.slip.queue.length then s.withResult p [0x08#8]
            else ((queueSlip { sl with
              number := none, kind := .copy, copyOf := some (sl.kind, number), copyMark := false, port := p } s).toldFault
                s).withResult p (0x00#8 :: be16 s.nextSlip)))) ∧
      ((s.port p).role = .staff →
        (∀ text : List Byte, text.length = 32 → Executing s p 0x53#8 text →
          exec (.setHeader p) s = .next
            ((s.withConfig { s.config with
              header := text.map (fun b => if 0x20 ≤ b.toNat ∧ b.toNat ≤ 0x7E then b else 0x20#8) }).withResult p [0x00#8])) ∧
        (∀ t1 t0, Executing s p 0x54#8 [t1, t0] →
          let n := t1.toNat * 256 + t0.toNat
          exec (.setPrinter p) s = .next
            ((s.withConfig { s.config with
              idleTime := if n = 0 then 0 else if n < 5 then 5 else if 600 < n then 600 else n }).withResult p [0x00#8])))) ∧
  (∀ (sl : Slip) (s : State),
      let q : Slip := { sl with number := some s.nextSlip, header := s.config.header, copyMark := false }
      let t := queueSlip sl s
      t.slip.queue = s.slip.queue ++ [q] ∧ t.nextSlip = (if s.nextSlip < 9999 then s.nextSlip + 1 else 1) ∧
      (∀ st, t.slip.lastSlip.get st =
        if sl.station = some st ∧ sl.kind ≠ .note ∧ sl.kind ≠ .copy then some q else s.slip.lastSlip.get st) ∧
      (s.slip.printer = .asleep → s.slip.queue = [] →
        t.slip = { s.slip with
          queue := t.slip.queue, lastSlip := t.slip.lastSlip, printer := .waking, feedOwed := true, output := [0x0E#8] }) ∧
      (s.slip.printer = .ready → s.slip.paperOut = false →
        t.slip = { s.slip with
          queue := t.slip.queue, lastSlip := t.slip.lastSlip, printer := .printing, idleTimer := none, linesDone := 0,
          lineSent := false, feedLeft := if s.slip.feedOwed then 2 else 0,
          output := if s.slip.feedOwed then [0x0A#8] else (s.slip.queue.headD q).lineBytes 0 }) ∧
      (s.slip.printer = .ready → s.slip.paperOut = true →
        t.slip = { s.slip with
          queue := t.slip.queue, lastSlip := t.slip.lastSlip, printer := .noPaper, idleTimer := none, feedLeft := 0,
          linesDone := 0, lineSent := false }) ∧
      (s.slip.printer ≠ .ready → s.slip.printer ≠ .asleep ∨ s.slip.queue ≠ [] →
        t = { s with nextSlip := t.nextSlip, slip := { s.slip with queue := t.slip.queue, lastSlip := t.slip.lastSlip } }) ∧
      t = { s with nextSlip := t.nextSlip, slip := t.slip } ∧ t.slip.waiting = s.slip.waiting)

/-- The printer's events but for a printed line (R138, R140, R141). A paper-out marks the slip that prints as a COPY if a line of
its own had been sent, printed or not: while the feed is sent none had, and while its first line is under way one had only if that line
is sent with its line end. At which step that line is sent is the model's choice (log entry 15). -/
def Obligations.PrinterEvents : Prop :=
  ∀ (sl : Slip) (rest : List Slip) (s : State), s.running = true →
    let fault : Event := ⟨.printerFault, none, none, sl.number.map .number, none⟩
    let sendsLine : SlipUnit → SlipUnit := fun u =>
      { u with printer := .printing, linesDone := 0, lineSent := false, feedLeft := if u.feedOwed then 2 else 0,
               output := if u.feedOwed then [0x0A#8] else (u.queue.head?.map (fun x => x.lineBytes 0)).getD [] }
    (s.slip.printer = .waking → s.slip.queue = sl :: rest →
      (s.slip.paperOut = false → exec .wakeComplete s = .next { s with slip := sendsLine s.slip }) ∧
      (s.slip.paperOut = true →
        exec .wakeComplete s =
          .next (post .B fault (post .A fault
            { s with slip := { s.slip with printer := .noPaper, feedLeft := 0, linesDone := 0, lineSent := false } })))) ∧
    (s.slip.printer = .printing → s.slip.queue = sl :: rest →
      exec .paperOut s =
        .next (post .B fault (post .A fault
          { s with slip := { s.slip with
              paperOut := true, printer := .noPaper, feedLeft := 0, linesDone := 0, lineSent := false,
              queue :=
                { sl with
                  copyMark :=
                    sl.copyMark || decide (s.slip.feedLeft = 0 ∧ (0 < s.slip.linesDone ∨ s.slip.lineSent = true)) } ::
                rest } }))) ∧
    (s.slip.printer ≠ .printing → exec .paperOut s = .next { s with slip := { s.slip with paperOut := true } }) ∧
    (s.slip.printer = .noPaper →
      let ready := post .B ⟨.printerReady, none, none, none, none⟩ (post .A ⟨.printerReady, none, none, none, none⟩ s)
      exec .paperRestored s = .next { ready with slip := sendsLine { s.slip with paperOut := false } }) ∧
    (s.slip.printer ≠ .noPaper → exec .paperRestored s = .next { s with slip := { s.slip with paperOut := false } }) ∧
    (s.slip.printer = .ready → s.slip.idleTimer.isSome = true →
      exec .idleTimerExpiry s =
        .next { s with slip := { s.slip with printer := .settling, idleTimer := none, output := [0x0F#8] } }) ∧
    (s.slip.printer = .settling →
      exec .settleComplete s = .next (
        if s.slip.queue = [] then { s with slip := { s.slip with printer := .asleep } }
        else { s with slip := { s.slip with printer := .waking, feedOwed := true, output := [0x0E#8] } }))

/-- LINE PRINTED (R104, R111, R132, R139, R141): the feed's lines and then the slip's own are sent one by one, each of 32 characters and
a line end (7.2); a slip printed whole leaves the queue with SLIP-PRINTED, the head of the closing-wait list is admitted, numbered at
the newest end, and the next slip is sent, after the feed where one is owed, or READY entered. An admitted slot enters IDLE with
TRANSACTION-CLOSED and its waiting codes reported (State.endedAt); one that holds a reopen-pending code reopens in the same event
instead: in AWAIT-PATRON with the mode and the slip choice it had, with the code taken as a patron step or, while PFAIL is high,
kept. -/
def Obligations.LinePrintedSendsTheNext : Prop :=
  (∀ (sl : Slip) (rest : List Slip) (s : State), s.running = true → s.slip.printer = .printing →
      s.slip.queue = sl :: rest →
      let told := post sl.port ⟨.slipPrinted, sl.station, none, sl.number.map .number, none⟩ s
      let sends : SlipUnit → SlipUnit := fun u =>
        { u with linesDone := 0, lineSent := false, feedLeft := if u.feedOwed then 2 else 0,
                 output := if u.feedOwed then [0x0A#8] else (u.queue.head?.map (fun x => x.lineBytes 0)).getD [] }
      let admitted : Slip → List (Station × Slip) → State → State := fun w more u =>
        let q : Slip := { w with number := some s.nextSlip, header := s.config.header, copyMark := false }
        { u with
          nextSlip := if s.nextSlip < 9999 then s.nextSlip + 1 else 1,
          slip := sends { s.slip with
            queue := rest ++ [q], waiting := more,
            lastSlip := if w.kind = .note ∨ w.kind = .copy then s.slip.lastSlip else
              (match w.station with | some x => s.slip.lastSlip.set x (some q) | none => s.slip.lastSlip) } }
      (s.slip.feedLeft = 2 →
        exec .linePrinted s = .next { s with slip := { s.slip with feedLeft := 1, lineSent := false, output := [0x0A#8] } }) ∧
      (s.slip.feedLeft = 1 →
        exec .linePrinted s = .next { s with slip := { s.slip with
          feedOwed := false, feedLeft := 0, linesDone := 0, lineSent := false, output := sl.lineBytes 0 } }) ∧
      (s.slip.feedLeft = 0 → s.slip.linesDone + 1 < sl.printed.length →
        exec .linePrinted s = .next { s with slip := { s.slip with
          linesDone := s.slip.linesDone + 1, lineSent := false, output := sl.lineBytes (s.slip.linesDone + 1) } }) ∧
      (s.slip.feedLeft = 0 → sl.printed.length ≤ s.slip.linesDone + 1 → s.slip.waiting = [] →
        (rest = [] →
          exec .linePrinted s = .next { told with slip := { s.slip with
            queue := [], printer := .ready, feedLeft := 0, linesDone := 0, lineSent := false,
            idleTimer := if s.config.idleTime = 0 then none else some s.config.idleTime } }) ∧
        (rest ≠ [] → exec .linePrinted s = .next { told with slip := sends { s.slip with queue := rest } })) ∧
      (∀ st w more p, s.slip.feedLeft = 0 → sl.printed.length ≤ s.slip.linesDone + 1 →
        s.slip.waiting = (st, w) :: more → s.owner st = some p → (s.slot st).reopen = none →
        exec .linePrinted s = .next ((admitted w more told).endedAt st p (some s.nextSlip))) ∧
      (∀ st w more p c, s.slip.feedLeft = 0 → sl.printed.length ≤ s.slip.linesDone + 1 →
        s.slip.waiting = (st, w) :: more → s.owner st = some p → (s.slot st).reopen = some c →
        let closed := post p ⟨.transactionClosed, some st, none, some (.number s.nextSlip), none⟩ told
        let reopened := (admitted w more closed).putSlot st
          { state := .awaitPatron, mode := (s.slot st).mode, slipWanted := (s.slot st).slipWanted, patron := none,
            patronClass := none, overridden := false, draft := [],
            timer := if (s.stationConfig st).timeout = 0 then none else some (s.stationConfig st).timeout,
            reopen := if s.pfail then some c else none }
        exec .linePrinted s = .next (if s.pfail then reopened else reopened.patronStepAt st p c))) ∧
  (∀ (sl : Slip) (i : Nat), i < sl.printed.length → (sl.lineBytes i).length = 33 ∧ (sl.lineBytes i).getLast? = some 0x0A#8)

/-! ### The UPLOAD LINK -/

/-- How a run begins and is stopped (R153, R161, R163, R164, R165): START UPLOAD and the retry expiry begin one from IDLE or ARMED
with DATA in flight while a record is PENDING and POLL otherwise; STOP UPLOAD fails the run in progress and leaves the link
IDLE. -/
def Obligations.RunsBeginAndAreStopped : Prop :=
  ∀ (p : Port) (s : State),
    let begun := s.begun
    let idleOrArmed := s.link.run = .idle ∨ s.link.run = .armed
    (s.running = true → s.link.run = .armed → s.link.retry = some 0 → exec .retryExpiry s = .next begun) ∧
    ((s.port p).role = .staff → Executing s p 0x60#8 [] →
      (idleOrArmed → exec (.startUpload p) s = .next (begun.withResult p [0x00#8])) ∧
      (¬ idleOrArmed → exec (.startUpload p) s = .next (s.withResult p [0x06#8]))) ∧
    ((s.port p).role = .staff → Executing s p 0x61#8 [] →
      (idleOrArmed → exec (.stopUpload p) s = .next (s.withResult p [0x05#8])) ∧
      (¬ idleOrArmed →
        ∃ t : State, exec (.stopUpload p) s = .next (t.withResult p [0x00#8]) ∧
          t.rm = { s.rm with journal := s.rm.journal.map Record.content } ∧
          t.link = { s.link with
            run := .idle, outcome := .failed .stopped, frame := .none, seek := .off, replyTimer := false, reply := none,
            retry := none, jam := none, sending := [] } ∧
          t.ports = (postStaff ⟨.uploadFailed, none, none, none, some (.fail .stopped)⟩ s).ports ∧
          t = { s with rm := t.rm, link := t.link, ports := t.ports }))

/-- SET LINK (R167, R190): an address, system number or window minute out of range is refused, a run in progress refuses with BUSY,
and otherwise the five values are stored with their check word and the window judged afresh without a window start or end:
ARMED outside the window goes to IDLE, and with the hold clear the mode follows the judgement. A minute lies in the window from the
start up to, not including, the end, past midnight when the start is the later, and never when the two are equal (R162). -/
def Obligations.SetLinkRejudgesTheWindow : Prop :=
  (∀ (p : Port) (a y1 y0 w1 w0 e1 e0 r : Byte) (s : State), Executing s p 0x63#8 [a, y1, y0, w1, w0, e1, e0, r] →
      (s.port p).role = .staff →
      let start := w1.toNat * 256 + w0.toNat
      let stop := e1.toNat * 256 + e0.toNat
      let nibbleAbove9 := 9 < y1.toNat / 16 ∨ 9 < y1.toNat % 16 ∨ 9 < y0.toNat / 16 ∨ 9 < y0.toNat % 16
      let bad := a = 0x00#8 ∨ a = 0xFF#8 ∨ nibbleAbove9 ∨ 1439 < start ∨ 1439 < stop
      let inRun := s.link.run ≠ .idle ∧ s.link.run ≠ .armed
      (bad → exec (.setLink p) s = .next (s.withResult p [0x03#8])) ∧
      (¬ bad → inRun → exec (.setLink p) s = .next (s.withResult p [0x06#8])) ∧
      (¬ bad → ¬ inRun →
        let cfg := { s.config with
          address := a.toNat, system := y1 ++ y0, windowStart := start, windowEnd := stop,
          retryInterval := if r = 0x00#8 then 1 else if 120 < r.toNat then 120 else r.toNat }
        let isOpen := !s.clock.unset && inWindow start stop s.clock.minute
        let u := { s.withConfig cfg with
          modeWindow := isOpen,
          link := if isOpen = false ∧ s.link.run = .armed then
              { s.link with windowOpen := false, run := .idle, retry := none }
            else { s.link with windowOpen := isOpen } }
        exec (.setLink p) s = .next ((if s.modeHold then u else
          changeMode (if isOpen then .night else .day) u).withResult p [0x00#8]))) ∧
  (∀ (a b m : Nat), a ≤ 1439 → b ≤ 1439 → m ≤ 1439 →
      (inWindow a b m = true ↔ ∃ k, k < (b + 1440 - a) % 1440 ∧ m = (a + k) % 1440))

/-- Contention (R150, R151): line activity sets a gap count below 8 back to 0, 8 character times commit the link, 12 win the gap and
send the frame in flight, and 30 s without committing fail the run (R161; State.failedRun). That the gap is won by its own event from any gap count, and that
the records of a DATA frame are sent with their upload state as SENT, are the model's readings (log entries 17 and 19). -/
def Obligations.GapIsSoughtAndWon : Prop :=
  ∀ (n : Nat) (s : State), s.running = true → s.link.run = .contend → s.link.jam = none → s.link.seek = .gap n →
    exec .lineActivity s = .next (if n < 8 then { s with link := { s.link with seek := .gap 0 } } else s) ∧
    exec .gapCommitted s = .next (if n < 8 then { s with link := { s.link with seek := .gap 8 } } else s) ∧
    (s.link.frame = .poll →
      exec .gapWon s = .next { s with link := { s.link with
        run := .sendPoll, seek := .off, sending := frameBytes 0x00#8 (BitVec.ofNat 8 s.config.address) 0x04#8 0 [] } }) ∧
    (∀ formed first others, s.link.frame = .data formed → s.rm.journal = first :: others →
      let count := min 8 s.rm.journal.length
      let sent := (s.rm.journal.take count).map (fun r => { r with sent := true })
      exec .gapWon s = .next { s with
        rm := { s.rm with journal := sent ++ s.rm.journal.drop count },
        link := { s.link with
          run := .sendData, seek := .off, frame := .data (some (first.seq, count)),
          sending := frameBytes 0x00#8 (BitVec.ofNat 8 s.config.address) 0x01#8 first.seq (sent.flatMap Record.bytes) } }) ∧
    (n < 8 →
      exec .noLine s = .next (s.failedRun .noLine))

/-- Collisions (R151, R159) and the random generator (R152): a collision cuts the frame off, returns its records to PENDING, jams
and counts an attempt, the twelfth failing the run (R161; State.failedRun) with its jam still sent; the jam's end forms the backoff from the generator as it stands, ends an
abandoned reply, or ends a failed run's last transmission; the end of the backoff seeks a gap afresh; and the generator steps once
a character time. That the attempt count and CONTEND come in the collision's own event, before the jam ends, and that an abandoned
reply leaves SEND-REPLY at the jam's end, is the model's reading (log entry 18). -/
def Obligations.CollisionsBackOff : Prop :=
  ∀ (s : State), s.running = true →
    (s.link.run = .sendData ∨ s.link.run = .sendPoll →
      (s.link.attempts + 1 < 12 →
        exec .collision s = .next { s with
          rm := { s.rm with journal := s.rm.journal.map Record.content },
          link := { s.link with
            run := .contend, attempts := s.link.attempts + 1, seek := .off, jam := some .backoff,
            sending := [0x55#8, 0x55#8],
            frame := match s.link.frame with | .data _ => .data none | x => x } }) ∧
      (12 ≤ s.link.attempts + 1 →
        let failed := s.failedRun .collisions
        exec .collision s = .next { failed with link := { failed.link with
          attempts := s.link.attempts + 1, jam := some .runOver, sending := [0x55#8, 0x55#8] } })) ∧
    (s.link.jam = some .backoff →
      let r := s.link.random.toNat % 2 ^ (min s.link.attempts 8)
      exec .jamEnd s = .next { s with link := { s.link with
        jam := none, sending := [], seek := if r = 0 then .gap 0 else .backoff r } }) ∧
    (s.link.jam = some .reply →
      exec .jamEnd s = .next { s with link := { s.link with
        jam := none, sending := [], run := .awaitUpdate, reply := none, replyTimer := true } }) ∧
    (s.link.jam = some .runOver → exec .jamEnd s = .next { s with link := { s.link with jam := none, sending := [] } }) ∧
    (∀ slots, s.link.seek = .backoff slots → s.link.run = .contend →
      exec .backoffEnd s = .next { s with link := { s.link with seek := .gap 0 } }) ∧
    (∃ g, exec .randomGeneratorStep s = .next { s with link := { s.link with random := g } } ∧
      g.getLsbD 0 = (((s.link.random.getLsbD 15 ^^ s.link.random.getLsbD 13) ^^ s.link.random.getLsbD 12) ^^
        s.link.random.getLsbD 10) ∧
      ∀ i, i < 15 → g.getLsbD (i + 1) = s.link.random.getLsbD i)

/-- Frames sent whole and replies (R147, R154, R157, R159): the reply timer starts with the answer awaited; the reply's ACK is sent
after its delay without seeking a gap; a reply that collides is abandoned; and a frame abandoned by the receiver has no
effect. The reply timer's expiry (R156, R157): the records return to PENDING and the timeout is counted; the third fails the run with
NO-REPLY (R161; State.failedRun), and an earlier one contends again with the frame of its phase. That an abandoned reply leaves the link in SEND-REPLY until its
jam has ended is the model's reading (log entry 18). -/
def Obligations.FramesSentRepliesAndTimeouts : Prop :=
  (∀ (s : State), s.running = true →
      (s.link.run = .sendData →
        exec .dataFrameSent s = .next { s with link := { s.link with
          run := .awaitAck, attempts := 0, replyTimer := true, sending := [] } }) ∧
      (s.link.run = .sendPoll →
        exec .pollSent s = .next { s with link := { s.link with
          run := .awaitUpdate, attempts := 0, replyTimer := true, sending := [] } }) ∧
      (∀ seq count, s.link.run = .sendReply → s.link.jam = none → s.link.reply = some ⟨seq, count, false⟩ →
        exec .replyDelayEnd s = .next { s with link := { s.link with
          reply := some ⟨seq, count, true⟩,
          sending := frameBytes 0x00#8 (BitVec.ofNat 8 s.config.address) 0x02#8 seq [BitVec.ofNat 8 count] } }) ∧
      (∀ seq count, s.link.run = .sendReply → s.link.jam = none → s.link.reply = some ⟨seq, count, true⟩ →
        exec .replySent s = .next { s with link := { s.link with
          run := .awaitUpdate, reply := none, replyTimer := true, sending := [] } } ∧
        exec .replyCollision s = .next { s with link := { s.link with
          jam := some .reply, sending := [0x55#8, 0x55#8] } }) ∧
      (∀ cause, exec (.frameAbandoned cause) s = .next s)) ∧
  (∀ (s : State), s.running = true → s.link.replyTimer = true → s.link.run = .awaitAck ∨ s.link.run = .awaitUpdate →
      (s.link.timeouts + 1 < 3 →
        exec .replyTimeout s = .next { s with
          rm := { s.rm with journal := s.rm.journal.map Record.content },
          link := { s.link with
            run := .contend, timeouts := s.link.timeouts + 1, replyTimer := false, seek := .gap 0,
            frame := if s.link.run = .awaitAck then .data none else .poll } }) ∧
      (3 ≤ s.link.timeouts + 1 →
        let failed := s.failedRun .noReply
        exec .replyTimeout s = .next { failed with link := { failed.link with timeouts := s.link.timeouts + 1 } }))

/-- The bytes of a frame are received as the frame (R145 to R147, TABLE 8-2): start bytes, header, payload and CRC give back the
destination, source, kind, sequence and payload; and a frame with another last byte of its CRC is no good frame. -/
def Obligations.FrameBytesAreReceivedWhole : Prop :=
  ∀ (dest source kind : Byte) (seq : Nat) (payload : List Byte), seq < 65536 → payload.length ≤ 240 →
    goodFrame (frameBytes dest source kind seq payload) = some ⟨dest, source, kind, seq, payload⟩ ∧
    ∀ flip : Byte, flip ≠ 0#8 →
      goodFrame ((frameBytes dest source kind seq payload).dropLast ++
        [((frameBytes dest source kind seq payload).getLast?.getD 0#8) ^^^ flip]) = none

/-- An ACK with count k for the DATA frame of n records in flight (R34, R38, R49, R91 to R93, R148, R155): the oldest min(k, n) records
leave the journal, and the others are PENDING in their order. The balance of each borrower with a confirmed FINE or PAYMENT is folded
afresh from the records that remain, or dropped, the entries keeping their creation order, and no other balance changes. Those borrowers are tested, in the order in which their
first such record stood: one unlisted at or above the threshold is blocked with a BLOCK-SET/LOCAL behind the journal, or reported
with BLOCK-LIST-FULL where the list is full, and a LOCAL block below the threshold is lifted with a BLOCK-CLEAR/LOCAL, without station
and with port A. JOURNAL-HIGH goes out where it is due, and fewer than 3,072 records arm it again. The searches in the JOURNAL and in the BLOCK LIST move
with the entries (R41). The next sequence counts the records written and nothing else, also where the journal is emptied (R32). The
run contends with DATA while a record is PENDING and with POLL otherwise. While PFAIL is high the ACK is not acted on (R37). -/
def Obligations.AckConfirmsTheOldestRecords : Prop :=
  ∀ (seq n k : Nat) (s : State), s.running = true → s.link.run = .awaitAck → s.link.jam = none →
    s.link.frame = .data (some (seq, n)) → seq < 65536 → k ≤ 8 → s.config.address < 256 →
    let f := frameBytes (BitVec.ofNat 8 s.config.address) 0x00#8 0x02#8 seq [BitVec.ofNat 8 k]
    let confirmed := s.rm.journal.take (min k n)
    let kept := s.rm.journal.drop (min k n)
    ((∀ m, s.link.seek ≠ .gap m) → s.pfail = true → exec (.ackFrame f) s = .next s) ∧
    (s.pfail = false → s.Canonical → s.Numbered →
      ∃ t, exec (.ackFrame f) s = .next t ∧
        (let tested := eachOnce (confirmed.filterMap (fun r => if r.kind = .fine ∨ r.kind = .payment then r.borrower else none))
         let acts := s.testActs t.balanceOf s.rm.blocks.length tested
         let written := acts.filter (fun x => x.2.2)
         let told := (acts.filter (fun x => !x.2.2)).foldl
           (fun u x => postStaff ⟨.blockListFull, none, some x.1, none, none⟩ u)
           (State.actsMoveSearches (s.rm.blocks.map Block.key) acts
             (moveSearches .journal (fun position => position - min k n) s))
         let w := ({ told with rm := t.rm } : State).endOfStep
         t.rm.journal = kept.map Record.content ++ written.mapIdx (fun i x =>
           ⟨(s.rm.nextSeq + i) % 65536, x.2.1, s.clock.day, s.clock.minute, none, .A, { localLogic := true }, some x.1, none,
             none, none, if x.2.1 = .blockSet then some 5 else none, false⟩) ∧
         (∀ b, t.blockOf b = match written.find? (fun x => x.1 == b) with
           | none => s.blockOf b
           | some x => if x.2.1 = .blockSet then some ⟨b, .localFines, .localLogic, s.clock.day⟩ else none) ∧
         t.rm = { s.rm with
           journal := t.rm.journal, blocks := t.rm.blocks, balances := t.rm.balances,
           nextSeq := (s.rm.nextSeq + written.length) % 65536 } ∧
         t.ports = w.ports ∧ t.armed = (w.armed || decide (t.rm.journal.length < 3072))) ∧
        t.rm.balances = s.rm.balances.filterMap (fun x =>
          if ∃ r ∈ confirmed, (r.kind = .fine ∨ r.kind = .payment) ∧ r.borrower = some x.borrower then
            (if kept.any (Record.isTrackedOf x.borrower) then some ⟨x.borrower, foldBalance x.borrower kept⟩ else none)
          else some x) ∧
        (∀ b, t.balanceEntry b =
          if ∃ r ∈ confirmed, (r.kind = .fine ∨ r.kind = .payment) ∧ r.borrower = some b then
            (if kept.any (Record.isTrackedOf b) then (s.balanceEntry b).map (fun _ => ⟨b, foldBalance b kept⟩) else none)
          else s.balanceEntry b) ∧
        t = { s with rm := t.rm, link := t.link, ports := t.ports, armed := t.armed } ∧
        t.link = { s.link with
          run := .contend, replyTimer := false, timeouts := 0, confirmed := min 65535 (s.link.confirmed + min k n),
          frame := if t.rm.journal = [] then .poll else .data none, seek := .gap 0 })

/-- BUSY and END (R62, R66, R155, R160, R161): a BUSY for the DATA frame in flight fails the run with CENTRAL-BUSY (State.failedRun); an END hands the
central time to the clock, which takes it, as SET CLOCK sets it (State.clockSetTo), when it is UNSET or more than a minute apart and
keeps its own otherwise, and the run is DONE: UPLOAD-DONE with the run's counts of records confirmed and updates applied goes to each STAFF port.
That the clock is set before the run is DONE is the model's reading (log entry 25). -/
def Obligations.BusyAndEndFrames : Prop :=
  ∀ (seq : Nat) (s : State), s.running = true → s.link.jam = none → seq < 65536 → s.config.address < 256 →
    (∀ m, s.link.seek ≠ .gap m) →
    let own := BitVec.ofNat 8 s.config.address
    (∀ n, s.link.run = .awaitAck → s.link.frame = .data (some (seq, n)) →
      exec (.busyFrame (frameBytes own 0x00#8 0x03#8 seq [])) s = .next (s.failedRun .centralBusy)) ∧
    (∀ day minute, day < 65536 → minute < 65536 → s.link.run = .awaitUpdate →
      let now := s.clock.day * 1440 + s.clock.minute
      let there := day * 1440 + minute
      let taken := minute ≤ 1439 ∧ (s.clock.unset = true ∨ there + 1 < now ∨ now + 1 < there)
      let e : Event := ⟨.uploadDone, none, none, some (.counts s.link.confirmed s.link.applied), none⟩
      ∃ u, (taken → u = s.clockSetTo day minute ∧ u.link = { s.link with windowOpen := u.link.windowOpen }) ∧ (¬ taken → u = s) ∧
        exec (.endFrame (frameBytes own 0x00#8 0x06#8 seq (be16 day ++ be16 minute))) s = .next { postStaff e u with
          link := { u.link with
            run := .idle, outcome := .done, frame := .none, seek := .off, replyTimer := false, reply := none } })

/-- A run UPDATE (R158), which while PFAIL is high is not acted on (R37, R169): one not seen before is applied up to the first entry that cannot be, its number and count are kept and the
reply carries the count; a repeat is answered with the count kept and applies nothing. A broadcast UPDATE (R37, R149): it is applied
once, without reply, and takes no part in the run; a repeat, or one that comes while PFAIL is high, changes nothing. The entries are
applied in order, and the first that cannot be applied ends the application, counting none from it on (R149, R158). An entry is 18
bytes (R196, TABLE 11-4): the update kind, the key code, the second code, absent when all FFH, and a parameter of three bytes. -/
def Obligations.UpdatesAreAppliedOnce : Prop :=
  (∀ (seq : Nat) (payload : List Byte) (s : State), s.running = true → s.link.run = .awaitUpdate → s.link.jam = none →
      seq < 65536 → s.config.address < 256 → payload.length % 18 = 0 → payload.length ≤ 234 →
      (∀ m, s.link.seek ≠ .gap m) →
      let f := frameBytes (BitVec.ofNat 8 s.config.address) 0x00#8 0x05#8 seq payload
      let applied := applyEntries (entriesOf payload) s
      let discarded := payload.length / 18 - applied.2
      (s.pfail = true → exec (.updateFrame f) s = .next s) ∧
      (∀ count, s.pfail = false → s.rm.lastRun = some (seq, count) →
        exec (.updateFrame f) s = .next { s with link := { s.link with
          run := .sendReply, replyTimer := false, timeouts := 0, reply := some ⟨seq, count, false⟩ } }) ∧
      (s.pfail = false → (∀ count, s.rm.lastRun ≠ some (seq, count)) →
        ∃ t, exec (.updateFrame f) s = .next t ∧ t.rm = { applied.1.rm with lastRun := some (seq, applied.2) } ∧
          t.link = { s.link with
            run := .sendReply, replyTimer := false, timeouts := 0, reply := some ⟨seq, applied.2, false⟩,
            applied := min 65535 (s.link.applied + applied.2) } ∧
          t.ports = (if discarded = 0 then applied.1.ports else
            (postStaff ⟨.updateRefused, none, none, some (.number discarded), none⟩ applied.1).ports) ∧
          t = { s with rm := t.rm, link := t.link, ports := t.ports })) ∧
  (∀ (seq : Nat) (payload : List Byte) (s : State), s.hears = true → seq < 65536 → payload.length % 18 = 0 →
      payload.length ≤ 234 → (∀ m, s.link.seek ≠ .gap m) →
      let f := frameBytes 0xFF#8 0x00#8 0x05#8 seq payload
      let applied := applyEntries (entriesOf payload) s
      let discarded := payload.length / 18 - applied.2
      (s.pfail = true ∨ s.rm.lastBroadcast = some seq → exec (.broadcastUpdate f) s = .next s) ∧
      (s.pfail = false → s.rm.lastBroadcast ≠ some seq →
        ∃ t, exec (.broadcastUpdate f) s = .next t ∧
          t.rm = { applied.1.rm with lastBroadcast := some seq } ∧ t.link = s.link ∧
          t.ports = (if discarded = 0 then applied.1.ports else
            (postStaff ⟨.updateRefused, none, none, some (.number discarded), none⟩ applied.1).ports) ∧
          t = { s with rm := t.rm, ports := t.ports })) ∧
  (∀ (e : UpdateEntry) (es : List UpdateEntry) (s : State),
      applyEntries [] s = (s, 0) ∧ (applyEntry e s = none → applyEntries (e :: es) s = (s, 0)) ∧
      (∀ t, applyEntry e s = some t → applyEntries (e :: es) s = ((applyEntries es t).1, (applyEntries es t).2 + 1))) ∧
  (∀ (kind a b c : Byte) (key second : Code) (more : List Byte), more.length ≤ 216 →
      entriesOf [] = [] ∧
      entriesOf (kind :: codeBytes key ++ codeBytes second ++ [a, b, c] ++ more) =
        ⟨kind, key, if codeBytes second = List.replicate 7 0xFF#8 then none else some second,
          a.toNat * 65536 + b.toNat * 256 + c.toNat⟩ :: entriesOf more)

/-- The entries of an update, one by one (R29, R47, R50, R54, R58, R72, R196): when each is applied and what it leaves. An entry that
is applied changes the entry of its key or day in the table of its kind, no other entry and no other table, and it writes no journal
record and posts nothing; the searches in the table move with an entry that joins or leaves it (R41). -/
def Obligations.UpdateEntriesChangeTheirTables : Prop :=
  ∀ (e : UpdateEntry) (s : State),
    (e.kind = 0x01#8 → borrowerValid e.key = true →
      let reason := (blockReasonOfByte (BitVec.ofNat 8 e.parameter)).getD .other
      (∀ x, s.blockOf e.key = some x →
        ∃ t, applyEntry e s = some t ∧ t.blockOf e.key = some ⟨x.borrower, reason, .central, x.dayAdded⟩ ∧
          t.rm.blocks.length = s.rm.blocks.length) ∧
      (s.blockOf e.key = none → s.rm.blocks.length < 1024 →
        ∃ t, applyEntry e s = some t ∧ t.blockOf e.key = some ⟨e.key, reason, .central, s.clock.day⟩) ∧
      (s.blockOf e.key = none → 1024 ≤ s.rm.blocks.length → applyEntry e s = none)) ∧
    (e.kind = 0x02#8 → borrowerValid e.key = true → ∃ t, applyEntry e s = some t ∧ t.blockOf e.key = none) ∧
    (e.kind = 0x01#8 ∨ e.kind = 0x02#8 → borrowerValid e.key = false → applyEntry e s = none) ∧
    (∀ flag, e.kind = 0x03#8 → itemValid e.key = true → BitVec.ofNat 8 e.parameter = ItemFlag.code flag →
      (flag = .reserved → ∃ b, e.second = some b ∧ borrowerValid b = true) →
      ((s.flagOf e.key).isSome = true ∨ s.rm.flags.length < 512 →
        ∃ t, applyEntry e s = some t ∧
          t.flagOf e.key = some ⟨e.key, flag, if flag = .reserved then e.second else none, s.clock.day⟩) ∧
      (s.flagOf e.key = none → 512 ≤ s.rm.flags.length → applyEntry e s = none)) ∧
    (e.kind = 0x03#8 → e.parameter % 256 = 0 ∨ 4 < e.parameter % 256 → applyEntry e s = none) ∧
    (e.kind = 0x03#8 → e.parameter % 256 = 1 → (∀ b, e.second = some b → borrowerValid b = false) → applyEntry e s = none) ∧
    (e.kind = 0x04#8 → itemValid e.key = true → ∃ t, applyEntry e s = some t ∧ t.flagOf e.key = none) ∧
    (e.kind = 0x03#8 ∨ e.kind = 0x04#8 → itemValid e.key = false → applyEntry e s = none) ∧
    (e.kind = 0x05#8 →
      ∃ t, applyEntry e s = some t ∧
        (∀ l, s.loanOf e.key = some l → e.second = some l.borrower → t.loanOf e.key = none) ∧
        ((∀ l, s.loanOf e.key = some l → e.second ≠ some l.borrower) → t = s)) ∧
    (e.kind = 0x06#8 →
      let day := e.parameter % 65536
      (day ∈ s.rm.closures ∨ day + 120 < s.clock.day → applyEntry e s = some s) ∧
      (day ∉ s.rm.closures → s.clock.day ≤ day + 120 → s.rm.closures.length < 64 →
        ∃ t, applyEntry e s = some t ∧ ∀ x, x ∈ t.rm.closures ↔ x = day ∨ x ∈ s.rm.closures) ∧
      (day ∉ s.rm.closures → s.clock.day ≤ day + 120 → 64 ≤ s.rm.closures.length → applyEntry e s = none)) ∧
    (e.kind = 0x07#8 →
      ∃ t, applyEntry e s = some t ∧
        ∀ x, x ∈ t.rm.closures ↔ x ≠ e.parameter % 65536 ∧ x ∈ s.rm.closures) ∧
    (e.kind = 0x00#8 ∨ 7 < e.kind.toNat → applyEntry e s = none) ∧
    (∀ t, applyEntry e s = some t →
      (e.kind ≠ 0x01#8 → e.kind ≠ 0x02#8 → t.rm.blocks = s.rm.blocks) ∧
      (e.kind ≠ 0x03#8 → e.kind ≠ 0x04#8 → t.rm.flags = s.rm.flags) ∧ (e.kind ≠ 0x05#8 → t.rm.loans = s.rm.loans) ∧
      (e.kind ≠ 0x06#8 → e.kind ≠ 0x07#8 → t.rm.closures = s.rm.closures) ∧
      (∀ other, other ≠ e.key →
        t.blockOf other = s.blockOf other ∧ t.flagOf other = s.flagOf other ∧ t.loanOf other = s.loanOf other) ∧
      t.rm = { s.rm with blocks := t.rm.blocks, flags := t.rm.flags, loans := t.rm.loans, closures := t.rm.closures } ∧
      (let moved :=
         if e.kind = 0x01#8 ∧ s.blockOf e.key = none then
           moveSearches .blocks (insertedAt (rank Block.key e.key.toNat s.rm.blocks)) s
         else if e.kind = 0x02#8 ∧ s.blockOf e.key ≠ none then
           moveSearches .blocks (removedAt (rank Block.key e.key.toNat s.rm.blocks)) s
         else if e.kind = 0x03#8 ∧ s.flagOf e.key = none then
           moveSearches .flags (insertedAt (rank FlagEntry.key e.key.toNat s.rm.flags)) s
         else if e.kind = 0x04#8 ∧ s.flagOf e.key ≠ none then
           moveSearches .flags (removedAt (rank FlagEntry.key e.key.toNat s.rm.flags)) s
         else if e.kind = 0x05#8 ∧ s.loanOf e.key ≠ none ∧ (s.loanOf e.key).map Loan.borrower = e.second then
           moveSearches .loans (removedAt (rank Loan.key e.key.toNat s.rm.loans)) s
         else s
       t = { s with rm := t.rm, ports := moved.ports }))

/-! ### The whole machine -/

/-- While PFAIL is high no record-memory step begins (R37): whatever command comes, but the fall of PFAIL
itself, the collections stay as they were; the upload state of the records may change (R33, R169). And a journal record leaves the
journal only when the central office confirms it or at a start (R30, R31, R34): every other command leaves the records in their
place, with their fields, and adds new ones behind them. The arming of JOURNAL-HIGH (R38) follows the records: whatever command but an
ACK and a start comes, it becomes disarmed exactly when the command adds a record and leaves 3,584 or more, and changes in no other
way. At the end of a step, State.endOfStep, JOURNAL-HIGH goes once to each STAFF port with the record count. -/
def Obligations.JournalGrowsAndCollectionsHold : Prop :=
  (∀ (c : Instr) (s t : State), s.pfail = true → c ≠ .pfailFall → exec c s = .next t → t.rm.content = s.rm.content) ∧
  (∀ (c : Instr) (s t : State), (∀ f, c ≠ .ackFrame f) → (∀ a b, c ≠ .start a b) → exec c s = .next t →
      (∃ new, t.rm.journal.map Record.content = s.rm.journal.map Record.content ++ new ∧ ∀ r ∈ new, r.sent = false) ∧
      t.armed = (s.armed && !(decide (s.rm.journal.length < t.rm.journal.length) && decide (3584 ≤ t.rm.journal.length)))) ∧
  (∀ (s : State),
      (s.armed = true → 3584 ≤ s.rm.journal.length →
        let e : Event := ⟨.journalHigh, none, none, some (.number s.rm.journal.length), none⟩
        let a := if (s.port .A).role = .staff then post .A e s else s
        let b := if (s.port .B).role = .staff then post .B e a else a
        s.endOfStep = { b with armed := false } ∧ s.endOfStep.endOfStep = s.endOfStep) ∧
      (s.armed = false ∨ s.rm.journal.length < 3584 → s.endOfStep = s))

/-- The collections keep their order, their keys and their capacities (R24, R31, R45, R55, R70, R89), and the journal's sequence
numbers stay consecutive modulo 65,536 (R32). A borrower has a BALANCE TABLE entry exactly while the journal holds a FINE or PAYMENT of
that borrower without UNTRACKED, and its amount is their fold (R89); every loan's due instant is later than its checkout instant (R24);
and an ITEM FLAG entry names a reserving borrower exactly when its flag is RESERVED (R55). The clock, from which the loans take their
instants, stays within the calendar (R61). -/
def Obligations.RecordMemoryStaysCanonical : Prop :=
  KeptByStep (fun s => s.Canonical ∧ s.Numbered ∧ s.Sound ∧ s.clock.Legal)

/-- The SENT records are the oldest of the journal, at most eight, and there are some only in SEND-DATA or AWAIT-ACK (R33); jam
characters of an abandoned reply are sent only in SEND-REPLY (R159). -/
def Obligations.SentRecordsStayTheOldest : Prop :=
  KeptByStep State.SentFirst

/-- The transaction slots stay lawful: in NIGHT every decoder is DISABLED, every slot is IDLE or CLOSING and none will reopen (R22, R124);
a slot is not IDLE
only while its station has an owner (R99); and the closing-wait list holds each CLOSING slot once and no other (R131). -/
def Obligations.SlotsStayLawful : Prop :=
  KeptByStep (fun s => s.NightClosed ∧ s.Owned ∧ s.WaitsMatch)

/-- The queues of the working memory keep their capacities (1.5, R113, R130, R182), and a port holds result bytes exactly in RESULT
(R175); the clock stays within the calendar (R61); the random generator, never 0 after seeding, is never 0 afterwards (R152); and
every setting stays in the range of its command (R19, R69, R73 to R75, R94, R137, R167). -/
def Obligations.QueuesClockAndGeneratorStayLegal : Prop :=
  (KeptByStep (fun s => s.Bounded ∧ s.ResultsMatch)) ∧
  (KeptByStep (fun s => s.clock.Legal ∧ s.link.random ≠ 0)) ∧
  (KeptByStep (fun s => SettingsInRange s.config))
end

