-- ==== Sys2Proof/Laws/Collections.lean ====
section
/-! SUPPORT. The laws of the ordered collections (R24, R45, R55, R70): what insertion, removal and overwriting in place do to the
entries, to a lookup and to the ascending order. -/

namespace Sys2Proof.Machine

variable {α : Type} (key : α → Nat)

theorem mem_insertBy (x y : α) (l : List α) : y ∈ insertBy key x l ↔ y = x ∨ y ∈ l := by
  induction l with
  | nil => simp [insertBy]
  | cons z zs ih =>
    simp only [insertBy]
    split
    · simp
    · simp only [List.mem_cons, ih]; tauto

@[simp] theorem length_insertBy (x : α) (l : List α) : (insertBy key x l).length = l.length + 1 := by
  induction l with
  | nil => rfl
  | cons z zs ih => simp only [insertBy]; split <;> simp [ih]

/-- An insertion of a key that is not there keeps the ascending order. -/
theorem insertBy_rising {x : α} {l : List α} (h : Rising key l) (new : ∀ y ∈ l, key y ≠ key x) :
    Rising key (insertBy key x l) := by
  induction l with
  | nil => simp [insertBy, Rising]
  | cons z zs ih =>
    simp only [Rising, List.map_cons, List.pairwise_cons, List.mem_map, forall_exists_index, and_imp,
      forall_apply_eq_imp_iff₂] at h
    simp only [insertBy]
    split
    · rename_i hlt
      simp only [Rising, List.map_cons, List.pairwise_cons, List.mem_cons, List.mem_map, forall_eq_or_imp,
        forall_exists_index, and_imp, forall_apply_eq_imp_iff₂]
      exact ⟨⟨hlt, fun y hy => lt_trans hlt (h.1 y hy)⟩, h.1, h.2⟩
    · rename_i hge
      have hz : key z < key x := lt_of_le_of_ne (Nat.not_lt.mp hge) (new z (by simp))
      simp only [Rising, List.map_cons, List.pairwise_cons, List.mem_map, forall_exists_index, and_imp,
        forall_apply_eq_imp_iff₂, mem_insertBy]
      refine ⟨?_, ih h.2 fun y hy => new y (by simp [hy])⟩
      rintro y (rfl | hy)
      · exact hz
      · exact h.1 y hy

theorem mem_removeBy (k : Nat) (y : α) (l : List α) : y ∈ removeBy key k l ↔ y ∈ l ∧ key y ≠ k := by
  simp [removeBy]

theorem length_removeBy (k : Nat) (l : List α) : (removeBy key k l).length ≤ l.length := List.length_filter_le _ _

theorem removeBy_rising (k : Nat) {l : List α} (h : Rising key l) : Rising key (removeBy key k l) := by
  unfold Rising at *
  exact h.sublist (List.filter_sublist.map key)

@[simp] theorem length_replaceBy (x : α) (l : List α) : (replaceBy key x l).length = l.length := by simp [replaceBy]

/-- Overwriting in place keeps every key. -/
@[simp] theorem map_replaceBy (x : α) (l : List α) : (replaceBy key x l).map key = l.map key := by
  simp only [replaceBy, List.map_map]
  refine List.map_congr_left fun y _ => ?_
  simp only [Function.comp]
  split <;> simp_all

theorem replaceBy_rising (x : α) {l : List α} (h : Rising key l) : Rising key (replaceBy key x l) := by
  simpa [Rising] using h

/-! ### Lookups -/

theorem lookupBy_none_iff (k : Nat) (l : List α) : lookupBy key k l = none ↔ ∀ y ∈ l, key y ≠ k := by
  simp [lookupBy]

/-- A lookup answers an entry of the collection with the key asked for. -/
theorem lookupBy_some {k : Nat} {l : List α} {y : α} (h : lookupBy key k l = some y) : y ∈ l ∧ key y = k :=
  ⟨List.mem_of_find?_eq_some h, by simpa using List.find?_some h⟩

theorem lookupBy_insertBy_other (x : α) {k : Nat} (h : k ≠ key x) (l : List α) :
    lookupBy key k (insertBy key x l) = lookupBy key k l := by
  have hx : (key x == k) = false := by simpa using fun e => h e.symm
  induction l with
  | nil => simp [insertBy, lookupBy, hx]
  | cons z zs ih =>
    simp only [insertBy]
    split
    · simp [lookupBy, List.find?_cons, hx]
    · simp only [lookupBy, List.find?_cons] at *
      split
      · rfl
      · exact ih

theorem lookupBy_insertBy_same (x : α) {l : List α} (new : lookupBy key (key x) l = none) :
    lookupBy key (key x) (insertBy key x l) = some x := by
  rw [lookupBy_none_iff] at new
  induction l with
  | nil => simp [insertBy, lookupBy]
  | cons z zs ih =>
    have hz : (key z == key x) = false := by simpa using new z (by simp)
    simp only [insertBy]
    split
    · simp [lookupBy]
    · simp only [lookupBy, List.find?_cons, hz] at *
      exact ih fun y hy => new y (by simp [hy])

@[simp] theorem lookupBy_removeBy_same (k : Nat) (l : List α) : lookupBy key k (removeBy key k l) = none := by
  simp [lookupBy_none_iff, mem_removeBy]

theorem lookupBy_removeBy_other {j k : Nat} (h : j ≠ k) (l : List α) :
    lookupBy key j (removeBy key k l) = lookupBy key j l := by
  simp only [lookupBy, removeBy, List.find?_filter]
  congr 1
  funext y
  by_cases hy : key y = j
  · simp [hy, h]
  · simp [hy]

theorem lookupBy_replaceBy_same (x : α) {l : List α} (there : lookupBy key (key x) l ≠ none) :
    lookupBy key (key x) (replaceBy key x l) = some x := by
  induction l with
  | nil => exact absurd rfl there
  | cons z zs ih =>
    simp only [lookupBy, replaceBy, List.map_cons, List.find?_cons] at *
    by_cases hz : key z = key x
    · simp [hz]
    · have hb : (key z == key x) = false := by simpa using hz
      simp only [hz, if_false, hb] at *
      exact ih there

theorem lookupBy_replaceBy_other (x : α) {k : Nat} (h : k ≠ key x) (l : List α) :
    lookupBy key k (replaceBy key x l) = lookupBy key k l := by
  have hx : (key x == k) = false := by simpa using fun e => h e.symm
  induction l with
  | nil => rfl
  | cons z zs ih =>
    simp only [lookupBy, replaceBy, List.map_cons, List.find?_cons] at *
    by_cases hz : key z = key x
    · simp only [hz, if_true, hx]
      exact ih
    · simp only [hz, if_false]
      split
      · rfl
      · exact ih

end Sys2Proof.Machine
end

