-- ==== Sys2Proof/Laws/State.lean ====
section
/-! SUPPORT. The small lemmas of the state: reading after writing a station, a port or a slot, and one lemma per field per
update, each true by rfl. -/

namespace Sys2Proof

@[simp] theorem PerStation.get_set_same {α : Type} (v : PerStation α) (st : Station) (x : α) : (v.set st x).get st = x := by
  cases st <;> rfl

theorem PerStation.get_set_other {α : Type} (v : PerStation α) {st st' : Station} (x : α) (h : st' ≠ st) :
    (v.set st x).get st' = v.get st' := by
  cases st <;> cases st' <;> first | rfl | exact absurd rfl h

@[simp] theorem PerStation.get_const {α : Type} (x : α) (st : Station) : (PerStation.const x).get st = x := by
  cases st <;> rfl

@[simp] theorem PerStation.set_get {α : Type} (v : PerStation α) (st : Station) : v.set st (v.get st) = v := by
  cases st <;> rfl

@[simp] theorem PerStation.set_set {α : Type} (v : PerStation α) (st : Station) (x y : α) :
    (v.set st x).set st y = v.set st y := by
  cases st <;> rfl

@[simp] theorem PerPort.get_set_same {α : Type} (v : PerPort α) (p : Port) (x : α) : (v.set p x).get p = x := by
  cases p <;> rfl

theorem PerPort.get_set_other {α : Type} (v : PerPort α) {p p' : Port} (x : α) (h : p' ≠ p) :
    (v.set p x).get p' = v.get p' := by
  cases p <;> cases p' <;> first | rfl | exact absurd rfl h

@[simp] theorem PerPort.set_get {α : Type} (v : PerPort α) (p : Port) : v.set p (v.get p) = v := by
  cases p <;> rfl

@[simp] theorem PerPort.set_set {α : Type} (v : PerPort α) (p : Port) (x y : α) : (v.set p x).set p y = v.set p y := by
  cases p <;> rfl

namespace Machine

/-! ### Reading after writing -/

@[simp] theorem State.port_putPort (s : State) (p : Port) (x : PortState) : (s.putPort p x).port p = x := by
  simp [State.port, State.putPort]

theorem State.port_putPort_other (s : State) {p p' : Port} (x : PortState) (h : p' ≠ p) :
    (s.putPort p x).port p' = s.port p' := by
  simp [State.port, State.putPort, PerPort.get_set_other _ _ h]

@[simp] theorem State.station_putStation (s : State) (st : Station) (x : WandStation) :
    (s.putStation st x).station st = x := by
  simp [State.station, State.putStation]

theorem State.station_putStation_other (s : State) {st st' : Station} (x : WandStation) (h : st' ≠ st) :
    (s.putStation st x).station st' = s.station st' := by
  simp [State.station, State.putStation, PerStation.get_set_other _ _ h]

@[simp] theorem State.slot_putSlot (s : State) (st : Station) (x : Slot) : (s.putSlot st x).slot st = x := by
  simp [State.slot, State.putSlot]

theorem State.slot_putSlot_other (s : State) {st st' : Station} (x : Slot) (h : st' ≠ st) :
    (s.putSlot st x).slot st' = s.slot st' := by
  simp [State.slot, State.putSlot, PerStation.get_set_other _ _ h]

@[simp] theorem State.putPort_putPort (s : State) (p : Port) (x y : PortState) :
    (s.putPort p x).putPort p y = s.putPort p y := by
  simp [State.putPort]

@[simp] theorem State.putPort_self (s : State) (p : Port) : s.putPort p (s.port p) = s := by
  simp [State.putPort, State.port]


/-! ### A port written -/

@[simp] theorem State.putPort_running (s : State) (p : Port) (x : PortState) : (s.putPort p x).running = s.running := rfl
@[simp] theorem State.putPort_mainPower (s : State) (p : Port) (x : PortState) : (s.putPort p x).mainPower = s.mainPower := rfl
@[simp] theorem State.putPort_resetHeld (s : State) (p : Port) (x : PortState) : (s.putPort p x).resetHeld = s.resetHeld := rfl
@[simp] theorem State.putPort_pfail (s : State) (p : Port) (x : PortState) : (s.putPort p x).pfail = s.pfail := rfl
@[simp] theorem State.putPort_marker (s : State) (p : Port) (x : PortState) : (s.putPort p x).marker = s.marker := rfl
@[simp] theorem State.putPort_rm (s : State) (p : Port) (x : PortState) : (s.putPort p x).rm = s.rm := rfl
@[simp] theorem State.putPort_commit (s : State) (p : Port) (x : PortState) : (s.putPort p x).commit = s.commit := rfl
@[simp] theorem State.putPort_config (s : State) (p : Port) (x : PortState) : (s.putPort p x).config = s.config := rfl
@[simp] theorem State.putPort_checkWord (s : State) (p : Port) (x : PortState) : (s.putPort p x).checkWord = s.checkWord := rfl
@[simp] theorem State.putPort_nextSlip (s : State) (p : Port) (x : PortState) : (s.putPort p x).nextSlip = s.nextSlip := rfl
@[simp] theorem State.putPort_clock (s : State) (p : Port) (x : PortState) : (s.putPort p x).clock = s.clock := rfl
@[simp] theorem State.putPort_purgeWaits (s : State) (p : Port) (x : PortState) : (s.putPort p x).purgeWaits = s.purgeWaits := rfl
@[simp] theorem State.putPort_armed (s : State) (p : Port) (x : PortState) : (s.putPort p x).armed = s.armed := rfl
@[simp] theorem State.putPort_stations (s : State) (p : Port) (x : PortState) : (s.putPort p x).stations = s.stations := rfl
@[simp] theorem State.putPort_slots (s : State) (p : Port) (x : PortState) : (s.putPort p x).slots = s.slots := rfl
@[simp] theorem State.putPort_slip (s : State) (p : Port) (x : PortState) : (s.putPort p x).slip = s.slip := rfl
@[simp] theorem State.putPort_link (s : State) (p : Port) (x : PortState) : (s.putPort p x).link = s.link := rfl
@[simp] theorem State.putPort_mode (s : State) (p : Port) (x : PortState) : (s.putPort p x).mode = s.mode := rfl
@[simp] theorem State.putPort_modeWindow (s : State) (p : Port) (x : PortState) : (s.putPort p x).modeWindow = s.modeWindow := rfl
@[simp] theorem State.putPort_modeHold (s : State) (p : Port) (x : PortState) : (s.putPort p x).modeHold = s.modeHold := rfl
@[simp] theorem State.putPort_pending (s : State) (p : Port) (x : PortState) : (s.putPort p x).pending = s.pending := rfl
@[simp] theorem State.putPort_station (s : State) (p : Port) (x : PortState) (st : Station) :
    (s.putPort p x).station st = s.station st := rfl
@[simp] theorem State.putPort_slot (s : State) (p : Port) (x : PortState) (st : Station) :
    (s.putPort p x).slot st = s.slot st := rfl
@[simp] theorem State.putPort_owner (s : State) (p : Port) (x : PortState) (st : Station) :
    (s.putPort p x).owner st = s.owner st := rfl

/-! ### A station written -/

@[simp] theorem State.putStation_running (s : State) (st : Station) (x : WandStation) : (s.putStation st x).running = s.running := rfl
@[simp] theorem State.putStation_mainPower (s : State) (st : Station) (x : WandStation) : (s.putStation st x).mainPower = s.mainPower := rfl
@[simp] theorem State.putStation_resetHeld (s : State) (st : Station) (x : WandStation) : (s.putStation st x).resetHeld = s.resetHeld := rfl
@[simp] theorem State.putStation_pfail (s : State) (st : Station) (x : WandStation) : (s.putStation st x).pfail = s.pfail := rfl
@[simp] theorem State.putStation_marker (s : State) (st : Station) (x : WandStation) : (s.putStation st x).marker = s.marker := rfl
@[simp] theorem State.putStation_rm (s : State) (st : Station) (x : WandStation) : (s.putStation st x).rm = s.rm := rfl
@[simp] theorem State.putStation_commit (s : State) (st : Station) (x : WandStation) : (s.putStation st x).commit = s.commit := rfl
@[simp] theorem State.putStation_config (s : State) (st : Station) (x : WandStation) : (s.putStation st x).config = s.config := rfl
@[simp] theorem State.putStation_checkWord (s : State) (st : Station) (x : WandStation) : (s.putStation st x).checkWord = s.checkWord := rfl
@[simp] theorem State.putStation_nextSlip (s : State) (st : Station) (x : WandStation) : (s.putStation st x).nextSlip = s.nextSlip := rfl
@[simp] theorem State.putStation_clock (s : State) (st : Station) (x : WandStation) : (s.putStation st x).clock = s.clock := rfl
@[simp] theorem State.putStation_purgeWaits (s : State) (st : Station) (x : WandStation) : (s.putStation st x).purgeWaits = s.purgeWaits := rfl
@[simp] theorem State.putStation_armed (s : State) (st : Station) (x : WandStation) : (s.putStation st x).armed = s.armed := rfl
@[simp] theorem State.putStation_slots (s : State) (st : Station) (x : WandStation) : (s.putStation st x).slots = s.slots := rfl
@[simp] theorem State.putStation_slip (s : State) (st : Station) (x : WandStation) : (s.putStation st x).slip = s.slip := rfl
@[simp] theorem State.putStation_link (s : State) (st : Station) (x : WandStation) : (s.putStation st x).link = s.link := rfl
@[simp] theorem State.putStation_ports (s : State) (st : Station) (x : WandStation) : (s.putStation st x).ports = s.ports := rfl
@[simp] theorem State.putStation_mode (s : State) (st : Station) (x : WandStation) : (s.putStation st x).mode = s.mode := rfl
@[simp] theorem State.putStation_modeWindow (s : State) (st : Station) (x : WandStation) : (s.putStation st x).modeWindow = s.modeWindow := rfl
@[simp] theorem State.putStation_modeHold (s : State) (st : Station) (x : WandStation) : (s.putStation st x).modeHold = s.modeHold := rfl
@[simp] theorem State.putStation_pending (s : State) (st : Station) (x : WandStation) : (s.putStation st x).pending = s.pending := rfl
@[simp] theorem State.putStation_port (s : State) (st : Station) (x : WandStation) (p : Port) :
    (s.putStation st x).port p = s.port p := rfl
@[simp] theorem State.putStation_slot (s : State) (st st' : Station) (x : WandStation) :
    (s.putStation st x).slot st' = s.slot st' := rfl
@[simp] theorem State.putStation_owner (s : State) (st st' : Station) (x : WandStation) :
    (s.putStation st x).owner st' = s.owner st' := rfl

/-! ### A slot written -/

@[simp] theorem State.putSlot_running (s : State) (st : Station) (x : Slot) : (s.putSlot st x).running = s.running := rfl
@[simp] theorem State.putSlot_mainPower (s : State) (st : Station) (x : Slot) : (s.putSlot st x).mainPower = s.mainPower := rfl
@[simp] theorem State.putSlot_resetHeld (s : State) (st : Station) (x : Slot) : (s.putSlot st x).resetHeld = s.resetHeld := rfl
@[simp] theorem State.putSlot_pfail (s : State) (st : Station) (x : Slot) : (s.putSlot st x).pfail = s.pfail := rfl
@[simp] theorem State.putSlot_marker (s : State) (st : Station) (x : Slot) : (s.putSlot st x).marker = s.marker := rfl
@[simp] theorem State.putSlot_rm (s : State) (st : Station) (x : Slot) : (s.putSlot st x).rm = s.rm := rfl
@[simp] theorem State.putSlot_commit (s : State) (st : Station) (x : Slot) : (s.putSlot st x).commit = s.commit := rfl
@[simp] theorem State.putSlot_config (s : State) (st : Station) (x : Slot) : (s.putSlot st x).config = s.config := rfl
@[simp] theorem State.putSlot_checkWord (s : State) (st : Station) (x : Slot) : (s.putSlot st x).checkWord = s.checkWord := rfl
@[simp] theorem State.putSlot_nextSlip (s : State) (st : Station) (x : Slot) : (s.putSlot st x).nextSlip = s.nextSlip := rfl
@[simp] theorem State.putSlot_clock (s : State) (st : Station) (x : Slot) : (s.putSlot st x).clock = s.clock := rfl
@[simp] theorem State.putSlot_purgeWaits (s : State) (st : Station) (x : Slot) : (s.putSlot st x).purgeWaits = s.purgeWaits := rfl
@[simp] theorem State.putSlot_armed (s : State) (st : Station) (x : Slot) : (s.putSlot st x).armed = s.armed := rfl
@[simp] theorem State.putSlot_stations (s : State) (st : Station) (x : Slot) : (s.putSlot st x).stations = s.stations := rfl
@[simp] theorem State.putSlot_slip (s : State) (st : Station) (x : Slot) : (s.putSlot st x).slip = s.slip := rfl
@[simp] theorem State.putSlot_link (s : State) (st : Station) (x : Slot) : (s.putSlot st x).link = s.link := rfl
@[simp] theorem State.putSlot_ports (s : State) (st : Station) (x : Slot) : (s.putSlot st x).ports = s.ports := rfl
@[simp] theorem State.putSlot_mode (s : State) (st : Station) (x : Slot) : (s.putSlot st x).mode = s.mode := rfl
@[simp] theorem State.putSlot_modeWindow (s : State) (st : Station) (x : Slot) : (s.putSlot st x).modeWindow = s.modeWindow := rfl
@[simp] theorem State.putSlot_modeHold (s : State) (st : Station) (x : Slot) : (s.putSlot st x).modeHold = s.modeHold := rfl
@[simp] theorem State.putSlot_pending (s : State) (st : Station) (x : Slot) : (s.putSlot st x).pending = s.pending := rfl
@[simp] theorem State.putSlot_port (s : State) (st : Station) (x : Slot) (p : Port) :
    (s.putSlot st x).port p = s.port p := rfl
@[simp] theorem State.putSlot_station (s : State) (st st' : Station) (x : Slot) :
    (s.putSlot st x).station st' = s.station st' := rfl
@[simp] theorem State.putSlot_owner (s : State) (st st' : Station) (x : Slot) :
    (s.putSlot st x).owner st' = s.owner st' := rfl

/-! ### A change of the link -/

@[simp] theorem onLink_running (f : Link → Link) (s : State) : (onLink f s).running = s.running := rfl
@[simp] theorem onLink_mainPower (f : Link → Link) (s : State) : (onLink f s).mainPower = s.mainPower := rfl
@[simp] theorem onLink_resetHeld (f : Link → Link) (s : State) : (onLink f s).resetHeld = s.resetHeld := rfl
@[simp] theorem onLink_pfail (f : Link → Link) (s : State) : (onLink f s).pfail = s.pfail := rfl
@[simp] theorem onLink_marker (f : Link → Link) (s : State) : (onLink f s).marker = s.marker := rfl
@[simp] theorem onLink_rm (f : Link → Link) (s : State) : (onLink f s).rm = s.rm := rfl
@[simp] theorem onLink_commit (f : Link → Link) (s : State) : (onLink f s).commit = s.commit := rfl
@[simp] theorem onLink_config (f : Link → Link) (s : State) : (onLink f s).config = s.config := rfl
@[simp] theorem onLink_checkWord (f : Link → Link) (s : State) : (onLink f s).checkWord = s.checkWord := rfl
@[simp] theorem onLink_nextSlip (f : Link → Link) (s : State) : (onLink f s).nextSlip = s.nextSlip := rfl
@[simp] theorem onLink_clock (f : Link → Link) (s : State) : (onLink f s).clock = s.clock := rfl
@[simp] theorem onLink_purgeWaits (f : Link → Link) (s : State) : (onLink f s).purgeWaits = s.purgeWaits := rfl
@[simp] theorem onLink_armed (f : Link → Link) (s : State) : (onLink f s).armed = s.armed := rfl
@[simp] theorem onLink_stations (f : Link → Link) (s : State) : (onLink f s).stations = s.stations := rfl
@[simp] theorem onLink_slots (f : Link → Link) (s : State) : (onLink f s).slots = s.slots := rfl
@[simp] theorem onLink_slip (f : Link → Link) (s : State) : (onLink f s).slip = s.slip := rfl
@[simp] theorem onLink_ports (f : Link → Link) (s : State) : (onLink f s).ports = s.ports := rfl
@[simp] theorem onLink_mode (f : Link → Link) (s : State) : (onLink f s).mode = s.mode := rfl
@[simp] theorem onLink_modeWindow (f : Link → Link) (s : State) : (onLink f s).modeWindow = s.modeWindow := rfl
@[simp] theorem onLink_modeHold (f : Link → Link) (s : State) : (onLink f s).modeHold = s.modeHold := rfl
@[simp] theorem onLink_pending (f : Link → Link) (s : State) : (onLink f s).pending = s.pending := rfl
@[simp] theorem onLink_link (f : Link → Link) (s : State) : (onLink f s).link = f s.link := rfl

/-! ### A change of the SLIP UNIT -/

@[simp] theorem onSlip_running (f : SlipUnit → SlipUnit) (s : State) : (onSlip f s).running = s.running := rfl
@[simp] theorem onSlip_mainPower (f : SlipUnit → SlipUnit) (s : State) : (onSlip f s).mainPower = s.mainPower := rfl
@[simp] theorem onSlip_resetHeld (f : SlipUnit → SlipUnit) (s : State) : (onSlip f s).resetHeld = s.resetHeld := rfl
@[simp] theorem onSlip_pfail (f : SlipUnit → SlipUnit) (s : State) : (onSlip f s).pfail = s.pfail := rfl
@[simp] theorem onSlip_marker (f : SlipUnit → SlipUnit) (s : State) : (onSlip f s).marker = s.marker := rfl
@[simp] theorem onSlip_rm (f : SlipUnit → SlipUnit) (s : State) : (onSlip f s).rm = s.rm := rfl
@[simp] theorem onSlip_commit (f : SlipUnit → SlipUnit) (s : State) : (onSlip f s).commit = s.commit := rfl
@[simp] theorem onSlip_config (f : SlipUnit → SlipUnit) (s : State) : (onSlip f s).config = s.config := rfl
@[simp] theorem onSlip_checkWord (f : SlipUnit → SlipUnit) (s : State) : (onSlip f s).checkWord = s.checkWord := rfl
@[simp] theorem onSlip_nextSlip (f : SlipUnit → SlipUnit) (s : State) : (onSlip f s).nextSlip = s.nextSlip := rfl
@[simp] theorem onSlip_clock (f : SlipUnit → SlipUnit) (s : State) : (onSlip f s).clock = s.clock := rfl
@[simp] theorem onSlip_purgeWaits (f : SlipUnit → SlipUnit) (s : State) : (onSlip f s).purgeWaits = s.purgeWaits := rfl
@[simp] theorem onSlip_armed (f : SlipUnit → SlipUnit) (s : State) : (onSlip f s).armed = s.armed := rfl
@[simp] theorem onSlip_stations (f : SlipUnit → SlipUnit) (s : State) : (onSlip f s).stations = s.stations := rfl
@[simp] theorem onSlip_slots (f : SlipUnit → SlipUnit) (s : State) : (onSlip f s).slots = s.slots := rfl
@[simp] theorem onSlip_link (f : SlipUnit → SlipUnit) (s : State) : (onSlip f s).link = s.link := rfl
@[simp] theorem onSlip_ports (f : SlipUnit → SlipUnit) (s : State) : (onSlip f s).ports = s.ports := rfl
@[simp] theorem onSlip_mode (f : SlipUnit → SlipUnit) (s : State) : (onSlip f s).mode = s.mode := rfl
@[simp] theorem onSlip_modeWindow (f : SlipUnit → SlipUnit) (s : State) : (onSlip f s).modeWindow = s.modeWindow := rfl
@[simp] theorem onSlip_modeHold (f : SlipUnit → SlipUnit) (s : State) : (onSlip f s).modeHold = s.modeHold := rfl
@[simp] theorem onSlip_pending (f : SlipUnit → SlipUnit) (s : State) : (onSlip f s).pending = s.pending := rfl
@[simp] theorem onSlip_slip (f : SlipUnit → SlipUnit) (s : State) : (onSlip f s).slip = f s.slip := rfl

/-! ### An event posted to a port -/

@[simp] theorem post_running (p : Port) (e : Event) (s : State) : (post p e s).running = s.running := rfl
@[simp] theorem post_mainPower (p : Port) (e : Event) (s : State) : (post p e s).mainPower = s.mainPower := rfl
@[simp] theorem post_resetHeld (p : Port) (e : Event) (s : State) : (post p e s).resetHeld = s.resetHeld := rfl
@[simp] theorem post_pfail (p : Port) (e : Event) (s : State) : (post p e s).pfail = s.pfail := rfl
@[simp] theorem post_marker (p : Port) (e : Event) (s : State) : (post p e s).marker = s.marker := rfl
@[simp] theorem post_rm (p : Port) (e : Event) (s : State) : (post p e s).rm = s.rm := rfl
@[simp] theorem post_commit (p : Port) (e : Event) (s : State) : (post p e s).commit = s.commit := rfl
@[simp] theorem post_config (p : Port) (e : Event) (s : State) : (post p e s).config = s.config := rfl
@[simp] theorem post_checkWord (p : Port) (e : Event) (s : State) : (post p e s).checkWord = s.checkWord := rfl
@[simp] theorem post_nextSlip (p : Port) (e : Event) (s : State) : (post p e s).nextSlip = s.nextSlip := rfl
@[simp] theorem post_clock (p : Port) (e : Event) (s : State) : (post p e s).clock = s.clock := rfl
@[simp] theorem post_purgeWaits (p : Port) (e : Event) (s : State) : (post p e s).purgeWaits = s.purgeWaits := rfl
@[simp] theorem post_armed (p : Port) (e : Event) (s : State) : (post p e s).armed = s.armed := rfl
@[simp] theorem post_stations (p : Port) (e : Event) (s : State) : (post p e s).stations = s.stations := rfl
@[simp] theorem post_slots (p : Port) (e : Event) (s : State) : (post p e s).slots = s.slots := rfl
@[simp] theorem post_slip (p : Port) (e : Event) (s : State) : (post p e s).slip = s.slip := rfl
@[simp] theorem post_link (p : Port) (e : Event) (s : State) : (post p e s).link = s.link := rfl
@[simp] theorem post_mode (p : Port) (e : Event) (s : State) : (post p e s).mode = s.mode := rfl
@[simp] theorem post_modeWindow (p : Port) (e : Event) (s : State) : (post p e s).modeWindow = s.modeWindow := rfl
@[simp] theorem post_modeHold (p : Port) (e : Event) (s : State) : (post p e s).modeHold = s.modeHold := rfl
@[simp] theorem post_pending (p : Port) (e : Event) (s : State) : (post p e s).pending = s.pending := rfl
@[simp] theorem post_station (p : Port) (e : Event) (s : State) (st : Station) : (post p e s).station st = s.station st := rfl
@[simp] theorem post_slot (p : Port) (e : Event) (s : State) (st : Station) : (post p e s).slot st = s.slot st := rfl
@[simp] theorem post_owner (p : Port) (e : Event) (s : State) (st : Station) : (post p e s).owner st = s.owner st := rfl

/-! ### A tone requested -/

@[simp] theorem tone_running (st : Station) (x : Pattern) (s : State) : (tone st x s).running = s.running := rfl
@[simp] theorem tone_mainPower (st : Station) (x : Pattern) (s : State) : (tone st x s).mainPower = s.mainPower := rfl
@[simp] theorem tone_resetHeld (st : Station) (x : Pattern) (s : State) : (tone st x s).resetHeld = s.resetHeld := rfl
@[simp] theorem tone_pfail (st : Station) (x : Pattern) (s : State) : (tone st x s).pfail = s.pfail := rfl
@[simp] theorem tone_marker (st : Station) (x : Pattern) (s : State) : (tone st x s).marker = s.marker := rfl
@[simp] theorem tone_rm (st : Station) (x : Pattern) (s : State) : (tone st x s).rm = s.rm := rfl
@[simp] theorem tone_commit (st : Station) (x : Pattern) (s : State) : (tone st x s).commit = s.commit := rfl
@[simp] theorem tone_config (st : Station) (x : Pattern) (s : State) : (tone st x s).config = s.config := rfl
@[simp] theorem tone_checkWord (st : Station) (x : Pattern) (s : State) : (tone st x s).checkWord = s.checkWord := rfl
@[simp] theorem tone_nextSlip (st : Station) (x : Pattern) (s : State) : (tone st x s).nextSlip = s.nextSlip := rfl
@[simp] theorem tone_clock (st : Station) (x : Pattern) (s : State) : (tone st x s).clock = s.clock := rfl
@[simp] theorem tone_purgeWaits (st : Station) (x : Pattern) (s : State) : (tone st x s).purgeWaits = s.purgeWaits := rfl
@[simp] theorem tone_armed (st : Station) (x : Pattern) (s : State) : (tone st x s).armed = s.armed := rfl
@[simp] theorem tone_slots (st : Station) (x : Pattern) (s : State) : (tone st x s).slots = s.slots := rfl
@[simp] theorem tone_slip (st : Station) (x : Pattern) (s : State) : (tone st x s).slip = s.slip := rfl
@[simp] theorem tone_link (st : Station) (x : Pattern) (s : State) : (tone st x s).link = s.link := rfl
@[simp] theorem tone_ports (st : Station) (x : Pattern) (s : State) : (tone st x s).ports = s.ports := rfl
@[simp] theorem tone_mode (st : Station) (x : Pattern) (s : State) : (tone st x s).mode = s.mode := rfl
@[simp] theorem tone_modeWindow (st : Station) (x : Pattern) (s : State) : (tone st x s).modeWindow = s.modeWindow := rfl
@[simp] theorem tone_modeHold (st : Station) (x : Pattern) (s : State) : (tone st x s).modeHold = s.modeHold := rfl
@[simp] theorem tone_pending (st : Station) (x : Pattern) (s : State) : (tone st x s).pending = s.pending := rfl

end Machine

end Sys2Proof
end

