-- ==== Sys2Proof/Laws/Ports.lean ====
section
/-! SUPPORT. How a command at a port runs: the result of a row of TABLE 11-2 as its rule's answer, the checks that rules share, and the
reading of the parameter bytes. -/

namespace Sys2Proof.Machine

/-! ### The EXECUTING phase -/

theorem commandAt_eq {s : State} {p : Port} {code : Byte} {params : List Byte} (h : Executing s p code params) :
    s.commandAt p code = some params := by
  simp [State.commandAt, h.running, h.phase, h.command]

/-- A command that a port executes is answered by its rule, behind the permission check (R174, R180). -/
theorem runCommand_eq {s : State} {p : Port} {code : Byte} {params : List Byte} (cmd : Command)
    (h : Executing s p code params) : runCommand code cmd p s = deliver p (answerOf code cmd p params s) := by
  simp [runCommand, commandAt_eq h]

/-- A row whose command the port does not execute changes nothing (log entry 2). -/
theorem runCommand_idle {s : State} {p : Port} {code : Byte} (cmd : Command) (h : s.commandAt p code = none) :
    runCommand code cmd p s = s := by
  simp [runCommand, h]

/-- Everything that the running of a command can do. -/
theorem runCommand_cases (code : Byte) (cmd : Command) (p : Port) (s : State) :
    runCommand code cmd p s = s ∨
      ∃ params, Executing s p code params ∧ runCommand code cmd p s = deliver p (answerOf code cmd p params s) := by
  cases h : s.commandAt p code with
  | none => exact .inl (runCommand_idle cmd h)
  | some params =>
    refine .inr ⟨params, ?_, by simp [runCommand, h]⟩
    simp only [State.commandAt, Option.ite_none_right_eq_some, Option.some.injEq] at h
    obtain ⟨⟨hr, hp, hc⟩, rfl⟩ := h
    refine ⟨hr, hp, ?_⟩
    cases hcmd : (s.port p).command <;> simp_all

theorem answerOf_allowed {s : State} {p : Port} {code : Byte} {params : List Byte} (cmd : Command)
    (h : staffOnly code = false ∨ code = overrideCode) : answerOf code cmd p params s = cmd p params s := by
  rcases h with h | h <;> simp [answerOf, State.forbids, h]

theorem answerOf_staff {s : State} {p : Port} {code : Byte} {params : List Byte} (cmd : Command)
    (h : (s.port p).role = .staff) : answerOf code cmd p params s = cmd p params s := by
  simp [answerOf, State.forbids, h]

/-- R180. -/
theorem answerOf_kiosk {s : State} {p : Port} {code : Byte} {params : List Byte} (cmd : Command)
    (hc : staffOnly code = true) (ho : code ≠ overrideCode) (h : (s.port p).role = .kiosk) :
    answerOf code cmd p params s = refuse .notPermitted s := by
  simp [answerOf, State.forbids, h, hc, ho]

@[simp] theorem deliver_refuse (p : Port) (c : Completion) (s : State) :
    deliver p (refuse c s) = s.withResult p [c.code] := rfl

@[simp] theorem deliver_done (p : Port) (bytes : List Byte) (s : State) :
    deliver p (done bytes s) = s.withResult p (0x00#8 :: bytes) := rfl

@[simp] theorem refuse_after (c : Completion) (s : State) : (refuse c s).after = s := rfl
@[simp] theorem refuse_completion (c : Completion) (s : State) : (refuse c s).completion = c := rfl
@[simp] theorem done_after (bytes : List Byte) (s : State) : (done bytes s).after = s := rfl
@[simp] theorem done_completion (bytes : List Byte) (s : State) : (done bytes s).completion = .ok := rfl

/-! ### Station parameters -/

@[simp] theorem withStation_st (st : Station) (s : State) (k : Station → Answer) :
    withStation (BitVec.ofNat 8 (stationNumber st)) s k = k st := by
  cases st <;> rfl

@[simp] theorem withStation_byte (st : Station) (s : State) (k : Station → Answer) :
    withStation (stationByte st) s k = k st := withStation_st st s k

theorem withStation_bad {n : Byte} (h : 3 < n.toNat) (s : State) (k : Station → Answer) :
    withStation n s k = refuse .badParameter s := by
  have : stationOfByte n = none := by
    unfold stationOfByte
    repeat' split
    all_goals first | rfl | (subst_vars; simp at h)
  simp [withStation, this]

theorem ifOwner_owner {s : State} {p : Port} {st : Station} (h : s.owner st = some p) (r : Answer) :
    ifOwner p st s r = r := by simp [ifOwner, h]

theorem ifOwner_other {s : State} {p : Port} {st : Station} (h : s.owner st ≠ some p) (r : Answer) :
    ifOwner p st s r = refuse .notOwner s := by simp [ifOwner, h]

/-! ### Numbers and codes among the parameters -/

@[simp] theorem byteAt_cons (b : Byte) (bs : List Byte) : byteAt (b :: bs) 0 = b := rfl

@[simp] theorem numAt_pair (a b : Byte) (bs : List Byte) : numAt (a :: b :: bs) 0 = a.toNat * 256 + b.toNat := by
  simp [numAt, slice, number]

/-- The position moves past bytes that stand before it. -/
theorem numAt_cons (b : Byte) (bs : List Byte) (i : Nat) : numAt (b :: bs) (i + 1) = numAt bs i := rfl

theorem byteAt_succ (b : Byte) (bs : List Byte) (i : Nat) : byteAt (b :: bs) (i + 1) = byteAt bs i := rfl

theorem codeAt_cons (b : Byte) (bs : List Byte) (i : Nat) : codeAt (b :: bs) (i + 1) = codeAt bs i := rfl

@[simp] theorem length_codeBytes (c : Code) : (codeBytes c).length = 7 := rfl

/-- A code sent and read again. -/
@[simp] theorem codeAt_codeBytes (c : Code) (bs : List Byte) : codeAt (codeBytes c ++ bs) 0 = c := by
  have h := c.isLt
  apply BitVec.eq_of_toNat_eq
  simp only [codeAt, slice, number, codeBytes, be24, be16, byte, List.cons_append, List.nil_append, List.drop_zero,
    List.take_succ_cons, List.take_zero, List.foldl_cons, List.foldl_nil, BitVec.toNat_ofNat]
  omega

@[simp] theorem codeAt_codeBytes_alone (c : Code) : codeAt (codeBytes c) 0 = c := by
  simpa using codeAt_codeBytes c []

/-- A two-byte number sent and read again. -/
theorem numAt_be16 {n : Nat} (h : n < 65536) (bs : List Byte) : numAt (be16 n ++ bs) 0 = n := by
  simp only [be16, byte, List.cons_append, List.nil_append, numAt_pair, BitVec.toNat_ofNat]
  omega

theorem number_slice_cons3 (a b c : Byte) (bs : List Byte) :
    number (slice (a :: b :: c :: bs) 0 3) = a.toNat * 65536 + b.toNat * 256 + c.toNat := by
  simp [slice, number]; ring

/-! ### The queue of commands -/

theorem step_front {c : Instr} {s : State} {rest : List Instr} (h : s.pending = c :: rest) :
    step s = exec c { s with pending := rest } := by
  simp [step, h]

/-- All that the sending of the line under way does (R139): the one field, in PRINTING, in a part that runs. -/
theorem finishSending_eq (s : State) :
    finishSending s =
      if s.running = true ∧ s.slip.printer = .printing then { s with slip := { s.slip with lineSent := true } } else s := by
  unfold finishSending finishLine onSlip
  by_cases hr : s.running = true
  · by_cases hp : s.slip.printer = .printing
    · simp only [hr, hp, and_self, if_true]
    · rw [if_pos hr, if_neg (fun h => hp h.2)]; dsimp only; rw [if_neg hp]
  · rw [if_neg hr, if_neg (fun h => hr h.1)]

@[simp] theorem finishSending_clock (s : State) : (finishSending s).clock = s.clock := by
  rw [finishSending_eq]; split <;> rfl
@[simp] theorem finishSending_running (s : State) : (finishSending s).running = s.running := by
  rw [finishSending_eq]; split <;> rfl
@[simp] theorem finishSending_rm (s : State) : (finishSending s).rm = s.rm := by
  rw [finishSending_eq]; split <;> rfl
@[simp] theorem finishSending_link (s : State) : (finishSending s).link = s.link := by
  rw [finishSending_eq]; split <;> rfl
@[simp] theorem finishSending_ports (s : State) : (finishSending s).ports = s.ports := by
  rw [finishSending_eq]; split <;> rfl

theorem step_idle {s : State} (h : s.pending = []) : step s = .next (idleStep s) := by
  simp [step, h]

end Sys2Proof.Machine
end

