-- ==== Sys2Proof/Laws/Frames.lean ====
section
/-! SUPPORT. What each shared operation leaves as it was, as an equation that names the fields it may change. Proofs about a command
cite these and unfold only what the command's own rule writes. -/

namespace Sys2Proof.Machine

/-! ### Folds -/

/-- A property of two states that each step of a fold keeps holds from end to end. -/
theorem foldl_keeps {α : Type} {P : State → State → Prop} (refl : ∀ s, P s s) (trans : ∀ s t u, P s t → P t u → P s u)
    (f : State → α → State) (h : ∀ s x, P s (f s x)) (l : List α) (s : State) : P s (l.foldl f s) := by
  induction l generalizing s with
  | nil => exact refl s
  | cons x xs ih => exact trans _ _ _ (h s x) (ih _)

/-! ### Events -/

/-- The states differ in the ports alone, and there in the queues of events alone. -/
structure SameButEvents (s t : State) : Prop where
  eq : t = { s with ports := t.ports }
  port : ∀ p, t.port p = { s.port p with events := (t.port p).events, lost := (t.port p).lost }

theorem SameButEvents.refl (s : State) : SameButEvents s s := ⟨rfl, fun _ => rfl⟩

theorem SameButEvents.trans {s t u : State} (h : SameButEvents s t) (k : SameButEvents t u) : SameButEvents s u := by
  refine ⟨by rw [k.eq, h.eq], fun p => ?_⟩
  rw [k.port p, h.port p]

theorem post_same (p : Port) (e : Event) (s : State) : SameButEvents s (post p e s) := by
  have h : ∀ q : PortState, q.offer e = { q with events := (q.offer e).events, lost := (q.offer e).lost } := fun q => by
    unfold PortState.offer
    split <;> rfl
  refine ⟨rfl, fun q => ?_⟩
  cases p <;> cases q <;> first | rfl | exact h _

theorem postIfStaff_same (p : Port) (e : Event) (s : State) : SameButEvents s (postIfStaff p e s) := by
  unfold postIfStaff
  split
  · exact post_same p e s
  · exact .refl s

theorem postStaff_same (e : Event) (s : State) : SameButEvents s (postStaff e s) :=
  (postIfStaff_same .A e s).trans (postIfStaff_same .B e _)

theorem postAll_same (e : Event) (s : State) : SameButEvents s (postAll e s) :=
  (post_same .A e s).trans (post_same .B e _)

theorem postOwner_same (st : Station) (e : Event) (s : State) : SameButEvents s (postOwner st e s) := by
  unfold postOwner
  split
  · exact post_same _ e s
  · exact .refl s

theorem reportWaiting_same (st : Station) (s : State) : SameButEvents s (reportWaiting st s) :=
  foldl_keeps (P := SameButEvents) .refl (fun _ _ _ => .trans) _ (fun t _ => postOwner_same st _ t) _ s

/-! ### Records and collections -/

theorem moveSearches_frame (t : Table) (f : Nat → Nat) (s : State) :
    moveSearches t f s = { s with ports := (moveSearches t f s).ports } := rfl

/-- A record is written at the newest end, and nothing else but the next sequence changes (R30, R32). -/
theorem writeRecord_frame (e : Entry) (s : State) :
    writeRecord e s = { s with rm := { s.rm with
      journal := (writeRecord e s).rm.journal, nextSeq := (s.rm.nextSeq + 1) % 65536 } } := rfl

@[simp] theorem writeRecord_length (e : Entry) (s : State) :
    (writeRecord e s).rm.journal.length = s.rm.journal.length + 1 := by simp [writeRecord]

/-- The states differ in the collections and in the ports alone. -/
def SameButRecords (s t : State) : Prop := t = { s with rm := t.rm, ports := t.ports }

theorem SameButRecords.refl (s : State) : SameButRecords s s := rfl

theorem SameButRecords.trans {s t u : State} (h : SameButRecords s t) (k : SameButRecords t u) : SameButRecords s u := by
  unfold SameButRecords at *
  rw [k, h]

theorem writeRecord_same (e : Entry) (s : State) : SameButRecords s (writeRecord e s) := rfl

theorem putBlock_same (b : Block) (s : State) : SameButRecords s (putBlock b s) := by
  unfold putBlock; split <;> rfl

theorem removeBlockOf_same (b : Code) (s : State) : SameButRecords s (removeBlockOf b s) := by
  unfold removeBlockOf; split <;> rfl

theorem putFlag_same (f : FlagEntry) (s : State) : SameButRecords s (putFlag f s) := by
  unfold putFlag; split <;> rfl

theorem removeFlagOf_same (item : Code) (s : State) : SameButRecords s (removeFlagOf item s) := by
  unfold removeFlagOf; split <;> rfl

theorem removeLoan_same (item : Code) (s : State) : SameButRecords s (removeLoan item s) := by
  unfold removeLoan; split <;> rfl

theorem insertLoan_same (l : Loan) (s : State) : SameButRecords s (insertLoan l s) := rfl
theorem replaceLoan_same (l : Loan) (s : State) : SameButRecords s (replaceLoan l s) := rfl

theorem updateBalance_same (kind : RecordKind) (b : Code) (cents : Nat) (s : State) :
    SameButRecords s (updateBalance kind b cents s) := by
  unfold updateBalance
  split
  · rfl
  · split <;> rfl

theorem writeMoney_same (e : Entry) (b : Code) (cents : Nat) (s : State) : SameButRecords s (writeMoney e b cents s) :=
  (writeRecord_same _ s).trans (updateBalance_same _ b cents _)

theorem refold_same (b : Code) (s : State) : SameButRecords s (refold b s) := by
  unfold refold; split <;> rfl

theorem SameButEvents.records {s t : State} (h : SameButEvents s t) : SameButRecords s t := by
  unfold SameButRecords
  rw [h.eq]

theorem runTest_same (st : Option Station) (p : Port) (b : Code) (s : State) : SameButRecords s (runTest st p b s) := by
  unfold runTest
  split
  · exact .refl s
  · unfold requestBlock
    split
    · exact (putBlock_same _ s).trans (writeRecord_same _ _)
    · exact (postStaff_same _ s).records
  · exact (removeBlockOf_same b s).trans (writeRecord_same _ _)

theorem chargeFine_same (st : Station) (l : Loan) (fine : Nat) (s : State) : SameButRecords s (chargeFine st l fine s) := by
  unfold chargeFine chargeMoney
  split
  · exact (writeMoney_same _ _ _ s).trans (runTest_same _ _ _ _)
  · exact .refl s

theorem applyEntry_same {e : UpdateEntry} {s t : State} (h : applyEntry e s = some t) : SameButRecords s t := by
  unfold applyEntry at h
  repeat' split at h
  · unfold applyBlockAdd at h
    repeat' split at h
    · cases h
    · cases h; exact putBlock_same _ s
    · cases h; exact putBlock_same _ s
    · cases h
  · unfold applyBlockRemove at h
    split at h <;> cases h
    exact removeBlockOf_same _ s
  · unfold applyFlagSet at h
    repeat' split at h
    · cases h
    · cases h
    all_goals first | cases h; exact putFlag_same _ s | cases h
  · unfold applyFlagClear at h
    split at h <;> cases h
    exact removeFlagOf_same _ s
  · unfold applyLoanClear at h
    split at h <;> cases h
    · split
      · exact removeLoan_same _ s
      · exact .refl s
    · exact .refl s
  · unfold applyClosureAdd at h
    repeat' split at h
    all_goals cases h
    · exact .refl s
    · rfl
  · cases h; rfl
  · cases h

/-- JOURNAL-HIGH changes the queues of events and the arming alone (R38). -/
theorem highWater_frame (s : State) :
    highWater s = { s with ports := (highWater s).ports, armed := (highWater s).armed } := by
  unfold highWater
  split
  · dsimp only
    rw [(postStaff_same _ s).eq]
  · rfl

/-- A confirmation changes the collections, the ports and the arming alone (R34). -/
theorem confirm_frame (m : Nat) (s : State) :
    confirm m s = { s with rm := (confirm m s).rm, ports := (confirm m s).ports, armed := (confirm m s).armed } := by
  have h1 : ∀ (l : List Code) (t : State), SameButRecords t (l.foldl (fun t b => refold b t) t) := fun l t =>
    foldl_keeps (P := SameButRecords) .refl (fun _ _ _ => .trans) _ (fun u b => refold_same b u) l t
  have h2 : ∀ (l : List Code) (t : State), SameButRecords t (l.foldl (fun t b => runTest none .A b t) t) := fun l t =>
    foldl_keeps (P := SameButRecords) .refl (fun _ _ _ => .trans) _ (fun u b => runTest_same none .A b u) l t
  have h0 : SameButRecords s (unsend (dropRecords m s)) := rfl
  have h := (h0.trans (h1 (moneyBorrowers (s.rm.journal.take m)) _)).trans (h2 (moneyBorrowers (s.rm.journal.take m)) _)
  unfold confirm rearm
  dsimp only
  split
  · dsimp only
    rw [highWater_frame, h]
  · rw [highWater_frame, h]

/-! ### Slots and slips -/

/-- The states differ in stations, slots and ports alone. -/
def SameButDesk (s t : State) : Prop := t = { s with stations := t.stations, slots := t.slots, ports := t.ports }

theorem SameButDesk.refl (s : State) : SameButDesk s s := rfl

theorem SameButDesk.trans {s t u : State} (h : SameButDesk s t) (k : SameButDesk t u) : SameButDesk s u := by
  unfold SameButDesk at *
  rw [k, h]

theorem SameButEvents.desk {s t : State} (h : SameButEvents s t) : SameButDesk s t := by
  unfold SameButDesk
  rw [h.eq]

theorem putSlot_same (s : State) (st : Station) (x : Slot) : SameButDesk s (s.putSlot st x) := rfl
theorem tone_same (st : Station) (x : Pattern) (s : State) : SameButDesk s (tone st x s) := rfl
theorem takeCode_same (st : Station) (s : State) : SameButDesk s (takeCode st s) := rfl

theorem refuseStep_same (st : Station) (c : Code) (r : Refuse) (s : State) : SameButDesk s (refuseStep st c r s) :=
  (postOwner_same st _ s).desk.trans (tone_same st _ _)

theorem reportBlocked_same (st : Station) (b : Code) (s : State) : SameButDesk s (reportBlocked st b s) :=
  (postOwner_same st _ s).desk.trans (tone_same st _ _)

theorem reportPatronOk_same (st : Station) (b : Code) (s : State) : SameButDesk s (reportPatronOk st b s) :=
  (postOwner_same st _ s).desk.trans (tone_same st _ _)

/-- The patron step writes no record (R110). -/
theorem patronStepOf_same (st : Station) (c : Code) (s : State) : SameButDesk s (patronStepOf st c s) := by
  unfold patronStepOf
  dsimp only
  split
  · exact refuseStep_same ..
  · split
    · exact refuseStep_same ..
    · split
      · exact (putSlot_same s st _).trans (reportBlocked_same ..)
      · exact (putSlot_same s st _).trans (reportPatronOk_same ..)

theorem leaveSlot_same (st : Station) (number : Option Nat) (reopen : Option Code) (s : State) :
    SameButDesk s (leaveSlot st number reopen s) := by
  have h := (putSlot_same s st Slot.fresh).trans (postOwner_same st (closedEvent st number) _).desk
  unfold leaveSlot
  dsimp only
  split
  · exact h.trans (reportWaiting_same st _).desk
  · unfold reopenSlot
    dsimp only
    split
    · exact h.trans (putSlot_same _ st _)
    · exact (h.trans (putSlot_same _ st _)).trans (patronStepOf_same ..)

/-- The states differ in the SLIP UNIT, the next slip number and the ports alone. -/
def SameButSlips (s t : State) : Prop := t = { s with nextSlip := t.nextSlip, slip := t.slip, ports := t.ports }

theorem SameButEvents.slips {s t : State} (h : SameButEvents s t) : SameButSlips s t := by
  unfold SameButSlips
  rw [h.eq]

/-- PRINTER-FAULT last changes what its event changes, and the queues of events (R140). -/
theorem faultLast_same (f : State → State) (s : State) : SameButEvents (f s) (faultLast f s) := by
  unfold faultLast printerFault
  dsimp only
  split
  · exact postAll_same ..
  · exact .refl _

/-- An event that does not take the printer to NO-PAPER has no PRINTER-FAULT. -/
theorem faultLast_quiet {f : State → State} {s : State} (h : (f s).slip.printer = .noPaper → s.slip.printer = .noPaper) :
    faultLast f s = f s := by
  unfold faultLast
  dsimp only
  split
  · rename_i k
    exact absurd (h k.2) k.1
  · rfl

/-- A slip entering the queue changes the SLIP UNIT and the next slip number alone (R128, R130). -/
theorem queueSlip_frame (sl : Slip) (s : State) :
    queueSlip sl s = { s with nextSlip := (queueSlip sl s).nextSlip, slip := (queueSlip sl s).slip } := by
  unfold queueSlip
  dsimp only
  split
  · split <;> rfl
  · rfl
  · rfl

theorem queueSlip_same (sl : Slip) (s : State) : SameButSlips s (queueSlip sl s) := by
  unfold SameButSlips
  rw [queueSlip_frame]

/-- What the end of a transaction leaves as it was: all but the stations, the slots, the SLIP UNIT, the next slip number and the
ports. -/
def SameButEnds (s t : State) : Prop :=
  t = { s with stations := t.stations, slots := t.slots, slip := t.slip, nextSlip := t.nextSlip, ports := t.ports }

theorem SameButEnds.refl (s : State) : SameButEnds s s := rfl

theorem SameButEnds.trans {s t u : State} (h : SameButEnds s t) (k : SameButEnds t u) : SameButEnds s u := by
  unfold SameButEnds at *
  rw [k, h]

theorem SameButDesk.ends {s t : State} (h : SameButDesk s t) : SameButEnds s t := by
  unfold SameButEnds
  rw [h]

theorem SameButSlips.ends {s t : State} (h : SameButSlips s t) : SameButEnds s t := by
  unfold SameButEnds
  rw [h]

theorem closeSlot_same (st : Station) (reopen : Option Code) (s : State) : SameButEnds s (closeSlot st reopen s) := by
  unfold closeSlot
  split
  · split
    · exact (queueSlip_same _ s).ends.trans (leaveSlot_same ..).ends
    · rfl
  · exact (leaveSlot_same ..).ends

theorem endSlot_same (st : Station) (s : State) : SameButEnds s (endSlot st s) := by
  unfold endSlot
  split
  · split
    · exact (leaveSlot_same ..).ends
    · exact closeSlot_same ..
  · exact .refl s

theorem clearReopen_same (st : Station) (s : State) : SameButEnds s (clearReopen st s) := rfl
theorem modeStation_same (m : Mode) (s : State) (st : Station) : SameButEnds s (modeStation m s st) := rfl

theorem endSlots_same (sts : List Station) (s : State) : SameButEnds s (endSlots sts s) :=
  ((foldl_keeps (P := SameButEnds) .refl (fun _ _ _ => .trans) _ (fun t st => clearReopen_same st t) sts s).trans
    (foldl_keeps (P := SameButEnds) .refl (fun _ _ _ => .trans) _ (fun t st => endSlot_same st t) sts _)).trans
    (faultLast_same _ s).desk.ends

/-! ### Modes, instants and runs -/

/-- A change of mode changes the mode and what the end of a transaction may change (R189). -/
theorem changeMode_frame (m : Mode) (s : State) :
    changeMode m s = { s with
      mode := (changeMode m s).mode, stations := (changeMode m s).stations, slots := (changeMode m s).slots,
      slip := (changeMode m s).slip, nextSlip := (changeMode m s).nextSlip, ports := (changeMode m s).ports } := by
  have h : ∀ (l : List Station) (t : State), SameButEnds t (l.foldl (modeStation m) t) := fun l t =>
    foldl_keeps (P := SameButEnds) .refl (fun _ _ _ => .trans) _ (modeStation_same m) l t
  have k := (postAll_same { kind := .modeChange, reason := some (.mode m) } { s with mode := m }).desk.ends.trans
    (h allStations _)
  unfold changeMode
  split
  · rfl
  · cases m
    · dsimp only; rw [k]
    · dsimp only; rw [k.trans (endSlots_same allStations _)]

@[simp] theorem changeMode_mode (m : Mode) (s : State) : (changeMode m s).mode = m := by
  have h : ∀ (l : List Station) (t : State), (l.foldl (modeStation m) t).mode = t.mode := fun l t => by
    rw [foldl_keeps (P := SameButEnds) .refl (fun _ _ _ => .trans) _ (modeStation_same m) l t]
  have k : ∀ e : Event, (postAll e { s with mode := m }).mode = m := fun e => by rw [(postAll_same e _).eq]
  unfold changeMode
  split
  · assumption
  · cases m
    · dsimp only; rw [h, k]
    · dsimp only; rw [endSlots_same, h, k]

theorem judgeMode_frame (s : State) :
    judgeMode s = { s with
      mode := (judgeMode s).mode, stations := (judgeMode s).stations, slots := (judgeMode s).slots,
      slip := (judgeMode s).slip, nextSlip := (judgeMode s).nextSlip, ports := (judgeMode s).ports,
      modeWindow := (judgeMode s).modeWindow, modeHold := (judgeMode s).modeHold } := by
  unfold judgeMode
  dsimp only
  split
  · rfl
  · rw [changeMode_frame]

theorem judgeLink_frame (s : State) : judgeLink s = { s with link := (judgeLink s).link } := by
  unfold judgeLink
  dsimp only
  repeat' split
  all_goals rfl

/-- An instant handed on leaves the collections, the settings and the clock as they were (R67). -/
theorem handOn_keeps (s : State) : (handOn s).rm = s.rm ∧ (handOn s).config = s.config ∧ (handOn s).clock = s.clock ∧
    (handOn s).running = s.running ∧ (handOn s).pfail = s.pfail ∧ (handOn s).purgeWaits = s.purgeWaits ∧
    (handOn s).pending = s.pending := by
  unfold handOn
  rw [judgeLink_frame, judgeMode_frame]
  exact ⟨rfl, rfl, rfl, rfl, rfl, rfl, rfl⟩

/-- A failed run returns its records to PENDING, reports, and changes the link alone besides (R161). -/
theorem runFailed_frame (r : FailReason) (s : State) :
    runFailed r s = { s with
      rm := (unsend s).rm, link := (runFailed r s).link,
      ports := (postStaff { kind := .uploadFailed, reason := some (.fail r) } (unsend s)).ports } := by
  unfold runFailed
  dsimp only
  unfold onLink
  rw [(postStaff_same _ (unsend s)).eq]
  rfl

end Sys2Proof.Machine
end

