-- ==== Sys2Proof/Laws/Settings.lean ====
section
/-! SUPPORT. The laws of the check word (R146, R194): the computation of R146 tells apart two runs of bytes that differ within two
bytes in a row, so a change of one setting of one or two bytes changes the check word, whatever the part's internal order. -/

namespace Sys2Proof.Machine

/-! ### The shifts of R146 are linear and lose nothing -/

theorem crcShift_xor (a b : Word16) : crcShift (a ^^^ b) = crcShift a ^^^ crcShift b := by
  cases ha : a.getLsbD 15 <;> cases hb : b.getLsbD 15 <;>
    simp only [crcShift, BitVec.getLsbD_xor, ha, hb, Bool.xor_false, Bool.xor_true, Bool.not_true, Bool.not_false, if_true,
      if_false, Bool.false_eq_true, BitVec.shiftLeft_xor_distrib]
  · rw [BitVec.xor_assoc]
  · rw [BitVec.xor_assoc, BitVec.xor_assoc, BitVec.xor_comm (b <<< 1)]
  · rw [BitVec.xor_comm (b <<< 1), ← BitVec.xor_assoc, BitVec.xor_assoc (a <<< 1), BitVec.xor_self, BitVec.xor_zero]

theorem crcShifts_xor (n : Nat) (a b : Word16) : crcShifts n (a ^^^ b) = crcShifts n a ^^^ crcShifts n b := by
  induction n generalizing a b with
  | zero => rfl
  | succ n ih => simp only [crcShifts, crcShift_xor, ih]

theorem crcShift_eq_zero {a : Word16} (h : crcShift a = 0#16) : a = 0#16 := by
  cases ha : a.getLsbD 15 with
  | true =>
    have h0 := congrArg (BitVec.getLsbD · 0) h
    simp [crcShift, ha] at h0
  | false =>
    simp only [crcShift, ha, Bool.false_eq_true, if_false] at h
    apply BitVec.eq_of_getLsbD_eq
    intro i hi
    rcases Nat.lt_or_ge i 15 with hlt | hge
    · have := congrArg (BitVec.getLsbD · (i + 1)) h
      simpa [show i + 1 < 16 by omega, BitVec.getLsbD_eq_getElem hi] using this
    · obtain rfl : i = 15 := by omega
      rw [ha, BitVec.getLsbD_zero]

theorem crcShifts_eq_zero (n : Nat) {a : Word16} (h : crcShifts n a = 0#16) : a = 0#16 := by
  induction n generalizing a with
  | zero => exact h
  | succ n ih => exact crcShift_eq_zero (ih h)

/-! ### Bytes taken into the register -/

/-- A byte in the high eight bits of the register. -/
def highByte (b : Byte) : Word16 := b.setWidth 16 <<< 8

theorem highByte_xor (a b : Byte) : highByte (a ^^^ b) = highByte a ^^^ highByte b := by
  simp only [highByte, BitVec.setWidth_xor, BitVec.shiftLeft_xor_distrib]

theorem highByte_eq_zero {b : Byte} (h : highByte b = 0#16) : b = 0#8 := by
  revert b; decide +kernel

/-- Two registers after a byte each differ as the shifts of the differences before. -/
theorem crcByte_xor (r r' : Word16) (b b' : Byte) :
    crcByte r b ^^^ crcByte r' b' = crcShifts 8 ((r ^^^ r') ^^^ highByte (b ^^^ b')) := by
  simp only [crcByte, ← crcShifts_xor, highByte, BitVec.setWidth_xor, BitVec.shiftLeft_xor_distrib]
  congr 1
  ac_rfl

/-- The same byte keeps different registers different. -/
theorem crcByte_register {r r' : Word16} {b : Byte} (h : crcByte r b = crcByte r' b) : r = r' := by
  have k := crcByte_xor r r' b b
  rw [h, BitVec.xor_self, BitVec.xor_self] at k
  exact BitVec.xor_eq_zero_iff.mp (by simpa [highByte] using crcShifts_eq_zero 8 k.symm)

/-- The same bytes keep different registers different. -/
theorem crc_register (l : List Byte) {r r' : Word16} (h : l.foldl crcByte r = l.foldl crcByte r') : r = r' := by
  induction l generalizing r r' with
  | nil => exact h
  | cons b bs ih => exact crcByte_register (ih h)

/-- One byte changed changes the register. -/
theorem crcByte_byte {r : Word16} {b b' : Byte} (h : crcByte r b = crcByte r b') : b = b' := by
  have k := crcByte_xor r r b b'
  rw [h, BitVec.xor_self, BitVec.xor_self, BitVec.zero_xor] at k
  exact BitVec.xor_eq_zero_iff.mp (highByte_eq_zero (crcShifts_eq_zero 8 k.symm))

/-- The eight shifts of a byte other than 0 leave something in the low eight bits. -/
theorem low_of_shifts {b : Byte} (h : (crcShifts 8 (highByte b)).setWidth 8 = 0#8) : b = 0#8 := by
  revert b; decide +kernel

/-- Two bytes in a row changed change the register. -/
theorem crcByte_two {r : Word16} {a b a' b' : Byte} (h : crcByte (crcByte r a) b = crcByte (crcByte r a') b') :
    a = a' ∧ b = b' := by
  have k := crcByte_xor (crcByte r a) (crcByte r a') b b'
  rw [h, BitVec.xor_self, crcByte_xor, BitVec.xor_self, BitVec.zero_xor] at k
  have e := BitVec.xor_eq_zero_iff.mp (crcShifts_eq_zero 8 k.symm)
  have low : (highByte (b ^^^ b')).setWidth 8 = 0#8 := by
    generalize b ^^^ b' = x
    revert x; decide +kernel
  obtain rfl := BitVec.xor_eq_zero_iff.mp (low_of_shifts (e ▸ low))
  exact ⟨rfl, crcByte_byte h⟩

/-- One or two bytes in a row changed change the register. -/
theorem crc_field {r : Word16} {f f' : List Byte} (n : f.length ≤ 2) (same : f'.length = f.length)
    (h : f.foldl crcByte r = f'.foldl crcByte r) : f = f' := by
  match f, f', n, same, h with
  | [], [], _, _, _ => rfl
  | [a], [a'], _, _, h => rw [crcByte_byte h]
  | [a, b], [a', b'], _, _, h => obtain ⟨rfl, rfl⟩ := crcByte_two h; rfl

/-! ### The check word -/

/-- Every setting of TABLE 10-3 stands among the fields. -/
theorem length_settingFields (c : Configuration) : (settingFields c).length = Config.settingCount := by
  simp [settingFields, Config.settingCount, stationFields, hoursFields, itemClassFields, borrowerClassFields]

/-- A change of one setting of one or two bytes changes the check word, wherever the part's order puts it (R194). -/
theorem checkWord_of_field {c c' : Configuration} (i : Fin Config.settingCount)
    (others : ∀ j, j ≠ i.val → (settingFields c').getD j [] = (settingFields c).getD j [])
    (short : ((settingFields c).getD i []).length ≤ 2)
    (same : ((settingFields c').getD i []).length = ((settingFields c).getD i []).length)
    (h : checkWordOf c' = checkWordOf c) : (settingFields c').getD i [] = (settingFields c).getD i [] := by
  obtain ⟨pre, post, hsplit, hpre, hpost⟩ : ∃ pre post, List.finRange Config.settingCount =
      pre ++ Config.settingsOrder.symm i :: post ∧ Config.settingsOrder.symm i ∉ pre ∧ Config.settingsOrder.symm i ∉ post := by
    obtain ⟨pre, post, e⟩ := List.append_of_mem (List.mem_finRange (Config.settingsOrder.symm i))
    have nd := List.nodup_finRange Config.settingCount
    rw [e, List.nodup_append] at nd
    exact ⟨pre, post, e, fun hm => nd.2.2 _ hm _ (by simp) rfl, fun hm => (List.nodup_cons.mp nd.2.1).1 hm⟩
  have keep : ∀ l : List (Fin Config.settingCount), Config.settingsOrder.symm i ∉ l →
      l.flatMap (fun k => (settingFields c').getD (Config.settingsOrder k) []) =
        l.flatMap (fun k => (settingFields c).getD (Config.settingsOrder k) []) := fun l hl => by
    refine List.flatMap_congr fun k hk => others _ fun e => hl ?_
    rw [← Fin.ext e, Equiv.symm_apply_apply]; exact hk
  simp only [checkWordOf, settingBytes, crc16, hsplit, List.flatMap_append, List.flatMap_cons, keep pre hpre, keep post hpost,
    List.foldl_append, Equiv.apply_symm_apply] at h
  exact (crc_field short same (crc_register _ h).symm).symm

end Sys2Proof.Machine
end

