-- ==== Sys2Proof/WellFormed.lean ====
section
/-! DEFINITION. Well-formed commands: the operands that a row of the table can carry at the lines of the part. `exec` gives every
term a meaning, well-formed or not (log entry 2). -/

namespace Sys2Proof

/-- A frame received whole of a kind: start bytes, length, CRC and payload length fit (R146 to R148). -/
def frameOfKind (kind : Byte) (payloadFits : Nat → Bool) (frame : List Byte) : Bool :=
  match Machine.goodFrame frame with
  | some r => r.kind == kind && payloadFits r.payload.length
  | none => false

/-- The payload length of an UPDATE: a multiple of 18, up to 234 (R148). -/
def updateLength (n : Nat) : Bool := n % 18 == 0 && decide (n ≤ 234)

/-- An element in range, 10 to 10,000 ticks (R3). -/
def elementInRange (ticks : Nat) : Bool := decide (10 ≤ ticks) && decide (ticks ≤ 10000)

/-- The step that a cut finds under way: its frame, where it has one, is of the step's kind. -/
def UnderWay.wf : UnderWay → Bool
  | .ackFrame f => frameOfKind Machine.kindAck (· == 1) f
  | .updateFrame f => frameOfKind Machine.kindUpdate updateLength f
  | .broadcastUpdate f => frameOfKind Machine.kindUpdate updateLength f
  | .endFrame f => frameOfKind Machine.kindEnd (· == 4) f
  | .checkoutStep _ => true
  | .returnStep _ => true
  | .renewStep _ => true
  | .command _ => true
  | .newMinute => true
  | .pfailFall => true

/-- The cut names a well-formed step. -/
def Cut.wf : Cut → Bool
  | .between => true
  | .filling u => u.wf
  | .complete u => u.wf
  | .settingTorn _ => true

/-- The operands of a command are ones that its row can carry. -/
def Instr.wf : Instr → Bool
  | .unknownCommand _ b => (Machine.fixedParameters b).isNone
  | .commandCodeTaken _ b => (Machine.fixedParameters b).isSome
  | .elementMeasured _ ticks => elementInRange ticks
  | .ackFrame f => frameOfKind Machine.kindAck (· == 1) f
  | .busyFrame f => frameOfKind Machine.kindBusy (· == 0) f
  | .updateFrame f => frameOfKind Machine.kindUpdate updateLength f
  | .broadcastUpdate f => frameOfKind Machine.kindUpdate updateLength f
  | .endFrame f => frameOfKind Machine.kindEnd (· == 4) f
  | .resetAssert cut => cut.wf
  | .powerLoss cut _ => cut.wf
  | _ => true

end Sys2Proof
end

