-- ==== Sys2Proof/Tests/Slice0.lean ====
section
/-! SUPPORT. Tests. Expected results are those of the spec's worked cases, each named at its test; `wf_` theorems are the smoke test of
WellFormed, with an ill-formed term for each check; `witness_` theorems show a state and operands that meet the hypotheses of a
statement. -/

namespace Sys2Proof.Machine.Tests

set_option Elab.async false

open Sys2Proof Sys2Proof.Machine

/-! ### Builders -/

def patron : Code := 0x23041700048212#56
def other : Code := 0x23041700051205#56
def item : Code := 0x30404171933054#56
def hourItem : Code := 0x30904172008152#56
def third : Code := 0x30404171933062#56

/-- The settings of the worked cases of Section 4 (TABLE 4-6) and of 6.13: system 0417, threshold 2,000. -/
def settings : Configuration :=
  { Configuration.factory with
    system := 0x0417#16, threshold := 2000,
    itemClasses := (Configuration.factory.itemClasses.set 4 ⟨.day, 2, 25, 500, 2⟩).set 9 ⟨.hour, 1, 50, 600, 2⟩,
    periods := (Configuration.factory.periods.set 4 (Vector.replicate 8 21)).set 9 (Vector.replicate 8 4) }

/-- The closure list of the worked cases of Section 4. -/
def closures : List Nat := [12497, 12498, 12509]

/-- A desk with the clock at an instant, the settings and the closure list of the worked cases. -/
def desk (day minute : Nat) : State :=
  { State.reset with
    clock := ⟨day, minute, 0, false⟩, config := settings, checkWord := checkWordOf settings,
    rm := { Collections.fresh with closures := closures, nextSeq := 200 }, nextSlip := 57,
    ports := ⟨PortState.fresh .staff, PortState.fresh .kiosk⟩ }

/-- A port in EXECUTING with a command buffer. -/
def atPort (s : State) (p : Port) (bytes : List Byte) : State :=
  s.putPort p { s.port p with phase := .executing, command := bytes }

theorem executing_at (s : State) (p : Port) (code : Byte) (params : List Byte) (h : s.running = true) :
    Executing (atPort s p (code :: params)) p code params := by
  cases p <;> exact ⟨h, rfl, rfl⟩

/-- Station 0 with codes in its scan slots and its slot in a state. -/
def atSlot (x : SlotState) (mode : TxMode) (who : Option Code) (codes : List Code) (s : State) : State :=
  (s.putStation .s0 { s.station .s0 with scans := codes }).putSlot .s0
    ⟨x, some mode, true, who, who.map borrowerClassOf, false, [], some 90, none⟩

/-- A line of a draft. -/
def line : ItemLine := ⟨item, .out, some (12499, none), 0, none⟩

/-- A loan of an item to a borrower with a due. -/
def loanOf (i b : Code) (due : Nat) (minute : Option Nat) : Loan :=
  ⟨i, b, itemClassOf i, borrowerClassOf b, 12470, 600, due, minute, 0, 190⟩

def withLoans (l : List Loan) (s : State) : State := { s with rm := { s.rm with loans := l } }
def withFlags (l : List FlagEntry) (s : State) : State := { s with rm := { s.rm with flags := l } }
def withBlocks (l : List Block) (s : State) : State := { s with rm := { s.rm with blocks := l } }
def withBalances (l : List Balance) (s : State) : State := { s with rm := { s.rm with balances := l } }

/-- A record of a kind with a sequence. -/
def rec (seq : Nat) (kind : RecordKind) (b : Option Code) (amount : Option Nat) : Record :=
  ⟨seq, kind, 12512, 940, none, .A, {}, b, none, none, none, amount, false⟩

def withJournal (l : List Record) (s : State) : State := { s with rm := { s.rm with journal := l } }

/-- The link in a run state with a frame in flight. -/
def atLink (run : RunState) (frame : FrameInFlight) (s : State) : State :=
  { s with link := { s.link with run := run, frame := frame } }

/-- What a command leaves, looked at. -/
def see {α : Type} (look : State → α) : Host.Outcome State Fault Refusal → Option α
  | .next t => some (look t)
  | .fault _ => none
  | .refused _ => none

/-- The kinds of the events in the queue of Port A. -/
def kindsAtA (s : State) : List EventKind := (s.port .A).events.map Event.kind

/-! ### WellFormed -/

theorem wf_unknown_command_refuses_known_code : (Instr.unknownCommand .A 0x41#8).wf = false := by decide +kernel
theorem wf_command_code_refuses_unknown_code : (Instr.commandCodeTaken .A 0x05#8).wf = false := by decide +kernel
theorem wf_element_refuses_short_and_long :
    (Instr.elementMeasured .s0 9).wf = false ∧ (Instr.elementMeasured .s0 10001).wf = false := by decide +kernel
theorem wf_frame_refuses_bad_crc : (Instr.ackFrame ((frameBytes 1#8 0#8 kindAck 7 [3#8]).dropLast ++ [0#8])).wf = false := by
  decide +kernel
theorem wf_ack_refuses_other_kind_and_length :
    (Instr.ackFrame (frameBytes 1#8 0#8 kindBusy 7 [3#8])).wf = false ∧
      (Instr.ackFrame (frameBytes 1#8 0#8 kindAck 7 [])).wf = false := by decide +kernel
theorem wf_busy_refuses_payload : (Instr.busyFrame (frameBytes 1#8 0#8 kindBusy 7 [0#8])).wf = false := by decide +kernel
theorem wf_update_refuses_length : (Instr.updateFrame (frameBytes 1#8 0#8 kindUpdate 7 [0#8])).wf = false := by decide +kernel
theorem wf_broadcast_refuses_length :
    (Instr.broadcastUpdate (frameBytes 0xFF#8 0#8 kindUpdate 7 [0#8])).wf = false := by decide +kernel
theorem wf_end_refuses_length : (Instr.endFrame (frameBytes 1#8 0#8 kindEnd 7 [0#8])).wf = false := by decide +kernel
theorem wf_reset_refuses_bad_step : (Instr.resetAssert (.complete (.ackFrame []))).wf = false := by decide +kernel
theorem wf_power_loss_refuses_bad_step : (Instr.powerLoss (.filling (.endFrame [])) true).wf = false := by decide +kernel
theorem wf_accepts :
    (Instr.ackFrame (frameBytes 1#8 0#8 kindAck 7 [3#8])).wf = true ∧ (Instr.elementMeasured .s0 10).wf = true ∧
      (Instr.commandCodeTaken .A 0x41#8).wf = true ∧ (Instr.unknownCommand .A 0x05#8).wf = true := by decide +kernel

/-! ### The table of commands -/

/-- The table gives its rows no bits, so no word spells a command. -/
theorem test_no_word_spells_a_command : decodeTableWord 8 0x41 = none := by decide
theorem test_fetch_word_changes_nothing (s : State) : s.withFetchWord 8 0x41 = s := rfl

/-! ### Worked cases of Sections 1, 2, 4, 5, 7 and 8 -/

/-- TABLE 1-2. -/
theorem test_check_digits : checkSum patron = 130 ∧ checkSum item = 161 ∧ codeValid patron = true ∧ codeValid item = true := by
  decide +kernel
/-- The text after TABLE 1-2. -/
theorem test_class_out_of_range_is_invalid :
    codeValid 0x28041700048212#56 = false ∧ checkDigit 0x31704171933051#56 = 1 ∧ codeValid 0x31704171933051#56 = false := by
  decide +kernel
/-- The worked example of 1.3. -/
theorem test_first_character :
    classify [148, 52, 61, 139, 57] = some (2, 139) ∧ classify [148, 52, 98, 139, 57] = none := by decide +kernel
/-- R146. -/
theorem test_crc_check : crc16 [0x31, 0x32, 0x33, 0x34, 0x35, 0x36, 0x37, 0x38, 0x39] = 0x29B1#16 := by decide +kernel
/-- R152. -/
theorem test_random : randomStep 0xACE1#16 = 0x59C3#16 ∧ randomSeed 1 1380 = 0x0665#16 ∧ randomStep 0x0665#16 = 0x0CCB#16 := by
  decide +kernel
/-- R83. -/
theorem test_dates : dateOf 12418 = ⟨2024, 1, 1⟩ ∧ dateOf 12477 = ⟨2024, 2, 29⟩ ∧ dateOf 65535 = ⟨2169, 6, 6⟩ := by decide +kernel
/-- Case A of 4.5. -/
theorem test_case_a : (desk 12477 1050).dueAt 12477 1050 4 3 = .due 12499 none {} := by decide +kernel
/-- Case B of 4.5. -/
theorem test_case_b :
    computeDue { settings with borrowerClasses := settings.borrowerClasses.set 3 ⟨20, some 12497⟩ } closures 12477 1050 4 3 =
      .due 12496 none { clamped := true } := by decide +kernel
/-- Case C of 4.5. -/
theorem test_case_c : (desk 12477 1050).dueAt 12477 1050 9 3 = .due 12478 (some 630) {} := by decide +kernel
/-- Case D of 4.5. -/
theorem test_case_d : (desk 12479 1215).dueAt 12479 1215 9 3 = .due 12481 (some 780) {} := by decide +kernel
/-- Case E of 4.5. -/
theorem test_case_e :
    let shut := { settings with hours := Vector.replicate 7 ⟨0, 0⟩ }
    computeDue shut closures 12477 1050 4 3 = .due 12512 none { closedDue := true } ∧
      computeDue shut closures 12477 1050 9 3 = .due 12477 (some 1290) { elapsed := true } := by decide +kernel
/-- "DUE 10:30 01 MAR" of Case C. -/
theorem test_due_text : dueText 12478 (some 630) =
    ascii ['D', 'U', 'E', ' ', '1', '0', ':', '3', '0', ' ', '0', '1', ' ', 'M', 'A', 'R'] := by decide +kernel
/-- The worked case of 5.1 to 5.5: 200 at day 12,512, nothing at day 12,502. -/
theorem test_day_fine :
    (desk 12512 940).fineOf (loanOf item patron 12499 none) = 200 ∧
      (desk 12502 940).fineOf (loanOf item patron 12499 none) = 0 := by decide +kernel
/-- The worked cases of 5.3: 150, 350 and 400. -/
theorem test_hour_fine :
    (desk 12478 812).fineOf (loanOf hourItem patron 12478 (some 630)) = 150 ∧
      (desk 12482 600).fineOf (loanOf hourItem patron 12481 (some 780)) = 350 ∧
      (desk 12482 601).fineOf (loanOf hourItem patron 12481 (some 780)) = 400 := by decide +kernel
/-- TABLE 5-4. -/
theorem test_fold :
    foldBalance other [rec 100 .fine other (some 300), rec 101 .payment other (some 200), rec 102 .fine other (some 400)] = 500 ∧
      foldBalance other [rec 101 .payment other (some 200), rec 102 .fine other (some 400)] = 400 := by decide +kernel
/-- R129: a marked LOAN slip number 57. -/
theorem test_marked_kind_line :
    ({ composeSlip .s0 (desk 12477 1050) with number := some 57, copyMark := true } : Slip).kindLine =
      ascii ['C', 'O', 'P', 'Y', ' ', 'L', 'O', 'A', 'N', ' ', '0', '0', '5', '7'] := by decide +kernel
/-- The amounts of 7.2. -/
theorem test_amounts :
    amountText 200 = ascii ['2', '.', '0', '0'] ∧ amountText 50 = ascii ['0', '.', '5', '0'] ∧
      amountText 65000 = ascii ['6', '5', '0', '.', '0', '0'] := by decide +kernel

/-! ### Single commands -/

/-- A label drawn whole across the wand, either way. -/
theorem test_label_both_ways :
    decodeElements (labelElements patron 50 150 54) 91 = some patron ∧
      decodeElements (labelElements patron 50 150 54).reverse 91 = some patron := by decide +kernel

/-- Station 2 with a symbol of the item held, as in TABLE 1-7. -/
def atRead (c : Code) (last : Option (Code × Nat)) (codes : List Code) : State :=
  (desk 12477 600).putStation .s2
    ⟨true, none, .acquiring (labelElements c 50 150 54) 91, last, codes, false, none⟩

/-- TABLE 1-7 at 400 ms. -/
theorem test_repeat_is_discarded :
    see (fun t => ((t.station .s2).scans, (t.port .B).events)) (exec (.decodeSymbol .s2 400) (atRead item (some (item, 0)) [item])) =
      some ([item], []) := by decide +kernel
/-- TABLE 1-7 at 2,000 ms. -/
theorem test_read_after_the_window :
    see (fun t => ((t.station .s2).scans, (t.port .B).events.map Event.kind))
        (exec (.decodeSymbol .s2 2000) (atRead item (some (item, 0)) [item])) =
      some ([item, item], [.scanReady]) := by decide +kernel
/-- TABLE 1-7 at 2,600 ms. -/
theorem test_read_with_slots_full :
    see (fun t => ((t.station .s2).lastAccepted, (t.station .s2).overflow, (t.port .B).events.map Event.kind))
        (exec (.decodeSymbol .s2 2600) (atRead patron (some (item, 2000)) [item, item])) =
      some (some (patron, 2600), true, [.scanLost]) := by decide +kernel
/-- TABLE 1-7 at 3,500 ms. -/
theorem test_key_entry_full :
    see (fun t => (t.port .B).result) (exec (.keyEntry .B) (atPort (atRead item none [item, item]) .B (0x13#8 :: 2#8 :: codeBytes patron))) =
      some [0x08#8] := by decide +kernel
/-- TABLE 1-7 at 3,800 ms. -/
theorem test_read_scan :
    see (fun t => ((t.port .B).result, (t.station .s2).scans)) (exec (.readScan .B) (atPort (atRead item none [item, item]) .B [0x12#8, 2#8])) =
      some (0#8 :: codeBytes item, [item]) := by decide +kernel

/-- TABLE 6-6, row 1. -/
theorem test_open_transaction :
    see (fun t => ((t.slot .s0).state, (t.slot .s0).timer)) (exec (.openTransaction .A) (atPort (desk 12477 1049) .A [0x20#8, 0#8, 0#8, 1#8])) =
      some (.awaitPatron, some 90) := by decide +kernel
/-- TABLE 6-6, row 2. -/
theorem test_item_needs_patron :
    see (fun t => ((t.port .A).events.map Event.reason, (t.station .s0).indicator))
        (exec (.wrongCodeRefusal .s0) (atSlot .awaitPatron .checkout none [item] (desk 12477 1050))) =
      some ([some (.refuse .needPatron)], some .refuse) := by decide +kernel
/-- TABLE 6-6, row 3. -/
theorem test_patron_step :
    see (fun t => ((t.slot .s0).state, (t.port .A).events))
        (exec (.patronStep .s0) (atSlot .awaitPatron .checkout none [patron] (desk 12477 1050))) =
      some (.serving, [⟨.patronOk, some .s0, some patron, some (.amount 0), none⟩]) := by decide +kernel
/-- TABLE 6-6, row 4. -/
theorem test_checkout :
    see (fun t => (t.rm.journal.map (fun r => (r.seq, r.kind)), t.rm.loans.map (fun l => (l.dueDay, l.seq)), (t.port .A).events))
        (exec (.checkoutStep .s0) (atSlot .serving .checkout patron [item] (desk 12477 1050))) =
      some ([(200, .checkout)], [(12499, 200)], [⟨.itemOut, some .s0, some item, some (.due 12499 none), none⟩]) := by
  decide +kernel
/-- TABLE 6-6, row 5. -/
theorem test_already_yours :
    see (fun t => (t.rm.journal, (t.port .A).events.map Event.reason))
        (exec (.checkoutStep .s0)
          (withLoans [loanOf item patron 12499 none] (atSlot .serving .checkout patron [item] (desk 12477 1050)))) =
      some ([], [some (.refuse .alreadyYours)]) := by decide +kernel
/-- TABLE 6-6, row 7. -/
theorem test_implicit_return :
    see (fun t => (t.rm.journal.map (fun r => (r.seq, r.kind, r.borrower)), t.rm.flags.length, kindsAtA t))
        (exec (.checkoutStep .s0)
          (withFlags [⟨third, .missing, none, 12400⟩] (withLoans [loanOf third other 12488 none]
            (atSlot .serving .checkout patron [third] (desk 12477 1050))))) =
      some ([(200, .flagClear, none), (201, .returned, some other), (202, .checkout, some patron)], 0, [.itemFound, .itemOut]) := by
  decide +kernel
/-- TABLE 6-6, row 8. -/
theorem test_second_card :
    see (fun t => ((t.slot .s0).patron, t.slip.queue.map Slip.number, kindsAtA t))
        (exec (.secondCard .s0)
          ((atSlot .serving .checkout patron [other] (desk 12477 1050)).putSlot .s0
            ⟨.serving, some .checkout, true, patron, some 3, false, [line], some 90, none⟩)) =
      some (some other, [some 57], [.transactionClosed, .patronOk]) := by decide +kernel
/-- TABLE 6-6, row 9. -/
theorem test_inactivity :
    see (fun t => ((t.slot .s0).state, kindsAtA t, (t.station .s0).indicator))
        (exec (.inactivityTimeout .s0) (atSlot .serving .checkout other [] (desk 12477 1052))) =
      some (.idle, [.timedOut, .transactionClosed], some .attention) := by decide +kernel
/-- The worked case of 5.1 to 5.5: RETURN, FINE and BLOCK-SET/LOCAL, balance 2,050. -/
theorem test_return_with_fine :
    see (fun t => (t.rm.journal.map Record.kind, t.balanceOf patron, t.rm.blocks, t.rm.loans))
        (exec (.returnStep .s0)
          (withBalances [⟨patron, 1850⟩] (withLoans [loanOf item patron 12499 none]
            (atSlot .returning .returning none [item] (desk 12512 940))))) =
      some ([.returned, .fine, .blockSet], 2050, [⟨patron, .localFines, .localLogic, 12512⟩], []) := by decide +kernel
/-- A renewal in time: the due of Case A, one renewal more. -/
theorem test_renew :
    see (fun t => (t.rm.journal.map Record.kind, t.rm.loans.map (fun l => (l.dueDay, l.renewals, l.seq))))
        (exec (.renewStep .s0)
          (withLoans [loanOf item patron 12490 none] (atSlot .serving .renewing patron [item] (desk 12477 1050)))) =
      some ([.renewed], [(12499, 1, 200)]) := by decide +kernel

/-- TABLE 7-7, row 1: the printer wakes. -/
theorem test_close_wakes_the_printer :
    see (fun t => (t.slip.printer, t.slip.feedOwed, t.slip.output, (t.port .A).result))
        (exec (.closeTransaction .A)
          (atPort ((desk 12477 1050).putSlot .s0 ⟨.serving, some .checkout, true, patron, some 3, false, [line], some 90, none⟩)
            .A [0x21#8, 0#8])) =
      some (.waking, true, [0x0E#8], [0#8, 0#8, 0#8, 57#8]) := by decide +kernel

/-- The printer with slip 57 at the head and a slip of station 1 waiting. -/
def printing (x : PrinterState) (feedLeft linesDone : Nat) : State :=
  { desk 12477 1050 with
    nextSlip := 65,
    slip := { SlipUnit.fresh false with
      printer := x, feedLeft := feedLeft, linesDone := linesDone, output := [],
      queue := [{ composeSlip .s0 (desk 12477 1050) with number := some 57, items := [line] }] } }

/-- TABLE 7-7, row 3: slip 57 marked. -/
theorem test_paper_out_marks_the_slip :
    see (fun t => (t.slip.printer, t.slip.queue.map Slip.copyMark, kindsAtA t)) (exec .paperOut (printing .printing 0 4)) =
      some (.noPaper, [true], [.printerFault]) := by decide +kernel
/-- R139, R140: the first line of slip 57 with its line end not yet sent, that line sent but not printed, and a blank line sent. -/
theorem test_paper_out_in_the_first_line :
    [(false, 0), (true, 0), (true, 1)].map (fun x =>
        let s := printing .printing x.2 0
        see (fun t => t.slip.queue.map Slip.copyMark) (exec .paperOut { s with slip := { s.slip with lineSent := x.1 } })) =
      [some [false], some [true], some [false]] := by decide +kernel
/-- TABLE 7-7, row 8, without waiting slots: SLIP-PRINTED and READY. -/
theorem test_last_line :
    see (fun t => (t.slip.printer, t.slip.queue, (t.port .A).events.map Event.value, t.slip.idleTimer))
        (exec .linePrinted (printing .printing 0 6)) = some (.ready, [], [some (.number 57)], some 60) := by decide +kernel

/-- The desk of 8.9: address 7, ten records 500 to 509, the balance and the local block of the borrower. -/
def branch : State :=
  { desk 12512 1379 with
    config := { settings with address := 7 },
    rm := { Collections.fresh with
      closures := closures, nextSeq := 510, lastRun := some (4409, 3),
      journal := [rec 500 .checkout none none, rec 501 .checkout none none, rec 502 .fine patron (some 1850),
        rec 503 .checkout none none, rec 504 .checkout none none, rec 505 .checkout none none, rec 506 .returned patron none,
        rec 507 .fine patron (some 200), rec 508 .blockSet patron (some 5), rec 509 .checkout none none],
      balances := [⟨patron, 2050⟩], blocks := [⟨patron, .localFines, .localLogic, 12512⟩] } }

/-- TABLE 8-7, row 1: the window start begins a run with DATA. -/
theorem test_window_start_begins_a_run :
    see (fun t => (t.link.run, t.link.frame, t.link.seek, t.mode)) (exec .newMinute branch) =
      some (.contend, .data none, .gap 0, .night) := by decide +kernel
/-- TABLE 8-7, row 2: eight records SENT, 250 characters. -/
theorem test_gap_won_sends_data :
    see (fun t => (t.link.run, t.link.frame, (t.rm.journal.filter Record.sent).map Record.seq, t.link.sending.length))
        (exec .gapWon (onLink (fun l => { l with seek := .gap 8 }) (atLink .contend (.data none) branch))) =
      some (.sendData, .data (some (500, 8)), [500, 501, 502, 503, 504, 505, 506, 507], 250) := by decide +kernel
/-- TABLE 8-7, row 3: the confirmation folds the balance to 200 and lifts the block with record 510. -/
theorem test_ack_of_three :
    see (fun t => (t.rm.journal.map Record.seq, t.balanceOf patron, t.rm.blocks, t.link.run))
        (exec (.ackFrame (frameBytes 7#8 0#8 kindAck 500 [3#8]))
          (markSent 8 (atLink .awaitAck (.data (some (500, 8))) branch))) =
      some ([503, 504, 505, 506, 507, 508, 509, 510], 200, [], .contend) := by decide +kernel
/-- TABLE 8-7, row 6: from 59C3H a first collision gives a backoff of 1 slot. -/
theorem test_backoff_of_one_slot :
    see (fun t => t.link.seek)
        (exec .jamEnd { branch with link := { branch.link with
          run := .contend, jam := some .backoff, attempts := 1, random := 0x59C3#16 } }) = some (.backoff 1) := by decide +kernel
/-- TABLE 8-7, row 8: the last records confirmed. -/
theorem test_ack_of_eight :
    see (fun t => (t.rm.journal, t.rm.balances, t.link.frame))
        (exec (.ackFrame (frameBytes 7#8 0#8 kindAck 503 [8#8]))
          (withJournal [rec 503 .checkout none none, rec 504 .checkout none none, rec 505 .checkout none none,
              rec 506 .returned patron none, rec 507 .fine patron (some 200), rec 508 .blockSet patron (some 5),
              rec 509 .checkout none none, rec 510 .blockClear patron none]
            (withBlocks [] (withBalances [⟨patron, 200⟩] (atLink .awaitAck (.data (some (503, 8))) branch))))) =
      some ([], [], .poll) := by decide +kernel
/-- The two entries of UPDATE 4410 (TABLE 8-7, row 10). -/
def entries : List Byte :=
  [1#8] ++ codeBytes patron ++ absent 7 ++ be24 1 ++ [6#8] ++ absent 7 ++ absent 7 ++ be24 12530
/-- TABLE 8-7, row 10. -/
theorem test_update :
    see (fun t => (t.rm.blocks, t.rm.closures, t.rm.lastRun, t.link.reply))
        (exec (.updateFrame (frameBytes 7#8 0#8 kindUpdate 4410 entries)) (withBlocks [] (atLink .awaitUpdate .poll branch))) =
      some ([⟨patron, .centralFines, .central, 12512⟩], closures ++ [12530], some (4410, 2), some ⟨4410, 2, false⟩) := by
  decide +kernel
/-- TABLE 8-7, row 12. -/
theorem test_update_repeated :
    see (fun t => (t.rm.closures, t.link.reply))
        (exec (.updateFrame (frameBytes 7#8 0#8 kindUpdate 4409 entries)) (atLink .awaitUpdate .poll branch)) =
      some (closures, some ⟨4409, 3, false⟩) := by decide +kernel
/-- TABLE 8-7, row 13: a difference of one minute leaves the clock. -/
theorem test_end :
    see (fun t => (t.link.run, t.link.outcome, t.clock.minute, kindsAtA t, (t.port .B).events))
        (exec (.endFrame (frameBytes 7#8 0#8 kindEnd 0 (be16 12512 ++ be16 1380))) (atLink .awaitUpdate .poll branch)) =
      some (.idle, .done, 1379, [.uploadDone], []) := by decide +kernel

/-- TABLE 9-8, row 3: the permission check stands before the test of the minute. -/
theorem test_kiosk_set_clock :
    see (fun t => ((t.port .B).result, t.clock.day)) (exec (.setClock .B) (atPort (desk 12477 1050) .B [0x40#8, 0#8, 0#8, 0xFF#8, 0xFF#8])) =
      some ([0x02#8], 12477) := by decide +kernel
/-- TABLE 9-8, row 2: a read too early. -/
theorem test_read_too_early :
    see (fun t => ((t.port .B).readOut, (t.port .B).ignored)) (exec (.resultByteRead .B) (desk 12477 1050)) =
      some (some 0xFF#8, true) := by decide +kernel
/-- TABLE 9-8, row 9: PORT STATUS reports and clears the lost count. -/
theorem test_port_status :
    see (fun t => ((t.port .B).result, (t.port .B).lost))
        (exec (.portStatus .B)
          (atPort ((desk 12477 1050).putPort .B { PortState.fresh .kiosk with
            events := List.replicate 7 ⟨.scanReady, none, none, none, none⟩, lost := 2 }) .B [0x04#8])) =
      some ([0#8, 7#8, 2#8], 0) := by decide +kernel

/-- TABLE 10-2, first row: MODE-CHANGE stands before TRANSACTION-CLOSED. -/
theorem test_set_mode_night :
    see (fun t => (t.mode, t.modeHold, kindsAtA t))
        (exec (.setMode .A) (atPort (atSlot .awaitPatron .checkout none [] (desk 12512 1350)) .A [0x70#8, 1#8])) =
      some (.night, true, [.modeChange, .transactionClosed]) := by decide +kernel
/-- TABLE 10-2, second row: the boundary clears the hold and posts nothing. -/
theorem test_window_start_clears_the_hold :
    see (fun t => (t.mode, t.modeHold, kindsAtA t))
        (exec .newMinute { desk 12512 1379 with mode := .night, modeHold := true }) = some (.night, false, []) := by decide +kernel

/-- A full search and the entry it finds. -/
theorem test_find_done :
    see (fun t => (t.port .A).events)
        (exec (.findDone .A) ((withLoans [loanOf item other 12488 none, loanOf third patron 12499 none] (desk 12477 1050)).putPort .A
          { PortState.fresh .staff with search := some ⟨.loans, .borrower, 0x2304170004821F#56, 0⟩ })) =
      some [⟨.findDone, none, none, some (.number 1), some (.search .hit)⟩] := by decide +kernel
theorem test_read_entry_length :
    see (fun t => (t.port .A).result.length)
        (exec (.readEntry .A) (atPort (withLoans [loanOf item other 12488 none] (desk 12477 1050)) .A [0x32#8, 1#8, 0#8, 0#8])) =
      some 28 := by decide +kernel
/-- TABLE 11-4: a SENT, UNTRACKED fine of 200 on day 12,512, minute 940, from station 2 and Port B, without due. -/
theorem test_read_entry_layout :
    see (fun t => (t.port .A).result)
        (exec (.readEntry .A) (atPort (withJournal [⟨500, .fine, 12512, 940, some .s2, .B, { untracked := true }, some patron,
          some item, none, none, some 200, true⟩] (desk 12477 1050)) .A [0x32#8, 0#8, 0#8, 0#8])) =
      some [0#8, 1#8, 0xF4#8, 0x84#8, 0x30#8, 0xE0#8, 3#8, 0xAC#8, 0x12#8, 0x40#8, 0x23#8, 4#8, 0x17#8, 0#8, 4#8, 0x82#8, 0x12#8,
        0x30#8, 0x40#8, 0x41#8, 0x71#8, 0x93#8, 0x30#8, 0x54#8, 0xFF#8, 0xFF#8, 0xFF#8, 0xFF#8, 0#8, 0#8, 0xC8#8] := by
  decide +kernel
theorem test_payment :
    see (fun t => ((t.port .A).result, t.rm.balances, t.rm.journal.map Record.kind))
        (exec (.recordPayment .A)
          (atPort (withBalances [⟨patron, 300⟩] (desk 12477 1050)) .A (0x33#8 :: codeBytes patron ++ [0#8, 1#8, 0x90#8]))) =
      some ([0#8, 0#8, 0#8, 0#8], [⟨patron, 0⟩], [.payment]) := by decide +kernel

/-! ### Witnesses of the hypotheses of the statements -/

/-- A part that is stopped. -/
def stopped (marker resetHeld : Bool) : State := { desk 12477 1050 with running := false, marker := marker, resetHeld := resetHeld }

/-- A desk with a second count and, at Port A, a search for the patron's loans at a position. -/
def searching (position second : Nat) : State :=
  { (withLoans [loanOf item other 12488 none, loanOf third patron 12499 none] (desk 12477 1050)).putPort .A
      { PortState.fresh .staff with search := some ⟨.loans, .borrower, patron, position⟩ } with
    clock := ⟨12477, 1050, second, false⟩ }

/-- R41, R61 and log entry 4: a step with no command waiting. -/
theorem test_idle_second_and_search :
    see (fun t => (t.clock.second, (t.port .A).search.map Search.position)) (step (searching 0 58)) = some (59, some 1) ∧
      see (fun t => (t.clock.minute, t.clock.second, (t.port .A).search.map Search.position)) (step (searching 1 59)) =
        some (1051, 0, some 1) := by decide +kernel
/-- R139 and log entry 15: the line under way is sent in PRINTING, and nothing is in WAKING. -/
theorem test_idle_sends_the_line :
    [PrinterState.printing, .waking].map (fun x => see (fun t => t.slip.lineSent) (step (printing x 0 0))) =
      [some true, some false] := by decide +kernel

/-- Second counts 58 and 59; a line under way to the printer, and none; a search at an entry that does not match, at one that does, past the end, and in a stopped part. -/
theorem witness_StepRunsFrontCommand :
    exec .newMinute (searching 0 59) = .next (onNewMinute (searching 0 59)) ∧
      ({ State.reset with pending := [.pfailRise] } : State).pending = .pfailRise :: [] ∧
      ((searching 0 58).pending = [] ∧ (searching 0 58).clock.second < 59 ∧ 59 ≤ (searching 0 59).clock.second) ∧
      (((searching 0 58).port .A).search = some ⟨.loans, .borrower, patron, 0⟩ ∧ (searching 0 58).running = true) ∧
      (((searching 0 58).rm.fieldCodes .loans .borrower)[0]? = some (some other) ∧ fieldMatches patron (some other) = false) ∧
      (((searching 1 58).rm.fieldCodes .loans .borrower)[1]? = some (some patron) ∧ fieldMatches patron (some patron) = true) ∧
      ((searching 2 58).rm.fieldCodes .loans .borrower)[2]? = none ∧ ({ searching 0 58 with running := false } : State).running = false ∧
      ((printing .printing 0 0).pending = [] ∧ (printing .printing 0 0).running = true ∧ (printing .printing 0 0).slip.printer = .printing ∧
        (searching 0 58).slip.printer ≠ .printing) :=
  ⟨rfl, by decide +kernel⟩

theorem witness_ColdStartLaysOutRecordMemory :
    ((stopped false false).running = false ∧ (stopped false false).pfail = false ∧ (stopped false false).marker = false) ∧
      ((stopped true true).running = false ∧ (stopped true true).pfail = false ∧ (stopped true true).resetHeld = true) := by
  decide +kernel

theorem ne_add_one (w : Word16) : w ≠ w + 1#16 := by bv_omega

/-- The settings whole and torn, the commit area complete and empty, the window judged open and not. -/
theorem witness_WarmStartKeepsRecordMemory :
    ((stopped true true).running = false ∧ (stopped true true).pfail = false ∧ (stopped true true).marker = true) ∧
      checkWordOf (stopped true false).config = (stopped true false).checkWord ∧
      checkWordOf (stopped true false).config ≠
        ({ stopped true false with checkWord := checkWordOf settings + 1#16 } : State).checkWord ∧
      ({ stopped true false with commit := .complete Collections.fresh } : State).commit = .complete Collections.fresh ∧
      (∀ image, (stopped true false).commit ≠ .complete image) ∧
      (stopped true false).windowJudged = false ∧ ({ stopped true false with clock := ⟨12477, 1380, 0, false⟩ } : State).windowJudged = true :=
  ⟨by decide +kernel, rfl, ne_add_one _, rfl, (by intro image h; cases h), by decide +kernel, by decide +kernel⟩

/-- The settings of the worked cases, with the term limit of Case B. -/
def limited : Configuration := { settings with borrowerClasses := settings.borrowerClasses.set 3 ⟨20, some 12497⟩ }

/-- What lies in its range by evaluation: the settings but for the stations, and the term limits that are present. -/
theorem in_range_of (c : Configuration)
    (stations : ∀ w ∈ [c.stations.s0, c.stations.s1, c.stations.s2, c.stations.s3], w.repeatWindow ≤ 5000 ∧ w.timeout ≤ 600)
    (terms : ∀ bc, (c.borrowerClasses.get bc).termLimit.all (fun l => decide (l < 65535)) = true)
    (rest : (∀ w, (c.hours.get w).openAt ≤ (c.hours.get w).closeAt ∧ (c.hours.get w).closeAt ≤ 1440) ∧
      (∀ ic, (c.itemClasses.get ic).grace ≤ 15 ∧ (c.itemClasses.get ic).rate ≤ 2000 ∧ (c.itemClasses.get ic).cap ≤ 65000 ∧
        (c.itemClasses.get ic).maxRenewals ≤ 15) ∧
      (∀ ic bc, periodOf c ic bc ≤ 255 ∧ ((c.itemClasses.get ic).kind = .hour → periodOf c ic bc ≤ 72)) ∧
      (∀ bc, (c.borrowerClasses.get bc).loanLimit ≤ 255) ∧ c.threshold ≤ 999999 ∧
      (c.idleTime = 0 ∨ (5 ≤ c.idleTime ∧ c.idleTime ≤ 600)) ∧ (1 ≤ c.address ∧ c.address ≤ 254) ∧
      (∀ k, k < 4 → c.system.toNat / 16 ^ k % 16 ≤ 9) ∧ (c.windowStart ≤ 1439 ∧ c.windowEnd ≤ 1439) ∧
      (1 ≤ c.retryInterval ∧ c.retryInterval ≤ 120)) : SettingsInRange c :=
  have ⟨hours, items, periods, limits, threshold, idle, address, system, window, retry⟩ := rest
  { stations := by intro st; cases st <;> exact stations _ (by simp [PerStation.get])
    hours, itemClasses := items, periods, threshold, idleTime := idle, address, system, window, retryInterval := retry
    borrowerClasses := fun bc => ⟨limits bc, fun l h => of_decide_eq_true (by have := terms bc; rw [h] at this; exact this)⟩ }

theorem settings_in_range : SettingsInRange settings := in_range_of _ (by decide +kernel) (by decide +kernel) (by decide +kernel)
theorem limited_in_range : SettingsInRange limited := in_range_of _ (by decide +kernel) (by decide +kernel) (by decide +kernel)

/-- SET PRINTER given at Port A, which changes the idle time from 60. -/
def settingPrinter : State := atPort (desk 12477 1050) .A [0x54#8, 0#8, 5#8]

/-- A purge that waits for PFAIL to fall, with a day 121 days back in the closure list. -/
def purging : State :=
  { desk 12477 1050 with pfail := true, purgeWaits := true, rm := { Collections.fresh with closures := 12356 :: closures } }

/-- R36, R37, R62, R191: the purge that the fall of PFAIL began, cut off before and after its commit area was complete:
PFAIL is low for the start that follows. -/
theorem test_purge_cut_off_at_the_fall :
    [Cut.filling .pfailFall, .complete .pfailFall].map (fun cut =>
        see (fun t => (t.pfail, t.rm.closures, t.commit)) (exec (.resetAssert cut) purging)) =
      [some (false, 12356 :: closures, .incomplete),
       some (false, 12356 :: closures, .complete { purging.rm with closures := closures })] := by decide +kernel

theorem witness_CutOffStepIsWholeOrLost :
    exec (.resetAssert (.complete .newMinute)) State.reset = .next (onResetAssert (.complete .newMinute) State.reset) ∧
      exec (.resetAssert (.filling .newMinute)) State.reset = .next (onResetAssert (.filling .newMinute) State.reset) ∧
      settingPrinter.checkWord = checkWordOf settingPrinter.config ∧ Executing settingPrinter .A 0x54#8 [0#8, 5#8] ∧
      SettingsInRange settingPrinter.config ∧
      (State.reset.running = true ∧ State.reset.pfail = false ∧ State.reset.marker = true) ∧
      (purging.running = true ∧ purging.pfail = true ∧ purging.marker = true) ∧
      (settingPrinter.running = true ∧ settingPrinter.pfail = false ∧ settingPrinter.marker = true ∧ settingPrinter.commit = .empty) ∧
      (0x54#8 : Byte) ∈ [0x10#8, 0x45#8, 0x54#8] ∧ (runBuffered .A settingPrinter).config ≠ settingPrinter.config :=
  ⟨rfl, rfl, rfl, executing_at _ _ _ _ rfl, settings_in_range, by decide +kernel⟩

/-- Station 0 in AWAIT-PATRON with a reopen code that waits for PFAIL to fall, and a purge that waits with it. -/
def reopening : State :=
  { (desk 12477 1050).putSlot .s0 ⟨.awaitPatron, some .checkout, true, none, none, false, [], some 90, some patron⟩ with
    pfail := true, purgeWaits := true }

theorem witness_SupplyAndResetEvents :
    (∀ st, (State.reset.slot st).state = .awaitPatron → (State.reset.slot st).reopen = none) ∧
      (∀ st, st ≠ .s0 → (reopening.slot st).state = .awaitPatron → (reopening.slot st).reopen = none) ∧
      ((∀ cut, Instr.gapWon ≠ .resetAssert cut) ∧ (∀ cut kept, Instr.gapWon ≠ .powerLoss cut kept) ∧
        ∀ a b, Instr.gapWon ≠ .start a b) ∧
      Instr.gapWon ∉ [Instr.paperOut, .paperRestored, .newMinute, .pfailRise, .pfailFall] ∧
      (stopped true false).running = false ∧ (State.reset.running = true ∧ reopening.running = true) ∧
      ((reopening.slot .s0).state = .awaitPatron ∧ (reopening.slot .s0).reopen = some patron ∧ reopening.owner .s0 = some .A) :=
  ⟨(by intro st h; cases st <;> cases h), (by intro st h _; cases st <;> first | exact absurd rfl h | rfl),
    ⟨(by intro cut h; cases h), (by intro cut kept h; cases h), (by intro a b h; cases h)⟩, by decide +kernel⟩

/-- A port in a phase with a command buffer and a result. -/
def inPhase (x : Phase) (command result : List Byte) : State :=
  (desk 12477 1050).putPort .A { PortState.fresh .staff with phase := x, command := command, result := result }

/-- R170, R171: an unselected cycle, one with both strobes, and a byte other than 5AH at the status byte, in RESULT. -/
theorem test_bus_cycle_disregarded :
    [(⟨false, true, false, true, 0#8⟩ : BusCycle), ⟨true, true, true, true, 0#8⟩, ⟨true, false, true, false, 0x5B#8⟩].map
        (fun c => see (fun t => t.port .A) (exec (.disregardedAccess .A c) (inPhase .result [] [7#8]))) =
      List.replicate 3 (some ((inPhase .result [] [7#8]).port .A)) := by decide +kernel
/-- R171, R176: 5AH at the status byte ends the result; a write of the data byte in RESULT sets IGNORED. -/
theorem test_bus_cycle_taken :
    see (fun t => ((t.port .A).phase, (t.port .A).result))
        (exec (.disregardedAccess .A ⟨true, false, true, false, 0x5A#8⟩) (inPhase .result [] [7#8])) = some (.commandIdle, []) ∧
      see (fun t => ((t.port .A).ignored, (t.port .A).result))
        (exec (.disregardedAccess .A ⟨true, false, true, true, 0x5A#8⟩) (inPhase .result [] [7#8])) = some (true, [7#8]) := by
  decide +kernel

/-- The port reset's byte and another at the status byte; a command without parameters and one with; PRINT NOTE with 0, 6 and 7 lines;
the last result byte and one before it. -/
theorem witness_DataByteAccesses :
    ((⟨false, true, false, true, 0#8⟩ : BusCycle).chipSelect = false ∧
        (⟨true, true, true, true, 0#8⟩ : BusCycle).readStrobe = (⟨true, true, true, true, 0#8⟩ : BusCycle).writeStrobe ∧
        (⟨true, false, true, false, 0x5A#8⟩ : BusCycle).data = 0x5A#8 ∧ (⟨true, false, true, false, 0x5B#8⟩ : BusCycle).data ≠ 0x5A#8) ∧
      ((desk 12477 1050).running = true ∧ ((desk 12477 1050).port .A).phase = .commandIdle ∧ fixedParameters 0x01#8 = some 0 ∧
        fixedParameters 0x40#8 = some 4 ∧ fixedParameters 0x05#8 = none) ∧
      (((inPhase .commandParams [0x50#8] []).port .A).phase = .commandParams ∧
        ((inPhase .commandParams [0x50#8] []).port .A).command = 0x50#8 :: [] ∧
        ((inPhase .commandParams [0x50#8, 6#8] []).port .A).command = 0x50#8 :: [6#8] ∧
        ((inPhase .commandParams [0x40#8, 0#8, 0#8, 0#8] []).port .A).command = 0x40#8 :: [0#8, 0#8, 0#8]) ∧
      (((inPhase .result [] [7#8]).port .A).phase = .result ∧ ((inPhase .result [] [7#8]).port .A).result = 7#8 :: [] ∧
        ((inPhase .result [] [0#8, 7#8]).port .A).result = 0#8 :: [7#8]) ∧
      (((desk 12477 1050).port .A).phase ≠ .result ∧ ((inPhase .executing [] []).port .A).phase = .executing) ∧
      (0x43#8 : Byte) ≠ 0x50#8 ∧ fixedParameters 0x43#8 = some [0#8, 1#8].length ∧
      ({ desk 12477 1050 with pending := [.commandCodeTaken .A 0x43#8, .parameterByteWrite .A 0#8, .parameterByteWrite .A 1#8] } :
          State).pending =
        .commandCodeTaken .A 0x43#8 :: ([0#8, 1#8].map (Instr.parameterByteWrite .A) ++ []) := by
  decide +kernel

theorem witness_StaffOnlyRefusedAtKiosk :
    commandOf (.startUpload .B) = some (.B, 0x60#8) ∧ Executing (atPort (desk 12477 1050) .B [0x60#8]) .B 0x60#8 [] ∧
      ((atPort (desk 12477 1050) .B [0x60#8]).port .B).role = .kiosk :=
  ⟨rfl, executing_at _ _ _ _ rfl, rfl⟩

theorem witness_RefusedCommandChangesNothing :
    commandOf (.takeEvent .A) = some (.A, 0x03#8) ∧ Executing (atPort (desk 12477 1050) .A [0x03#8]) .A 0x03#8 [] ∧
      see (fun t => (t.port .A).result.head?) (exec (.takeEvent .A) (atPort (desk 12477 1050) .A [0x03#8])) = some (some 7#8) ∧
      (7#8 : Byte) ≠ 0#8 :=
  ⟨rfl, executing_at _ _ _ _ rfl, by decide +kernel, by decide⟩

/-- Station 0 in SERVING with a line and a code waiting, the printer READY without paper. -/
def outOfPaper : State :=
  { (atSlot .serving .checkout patron [item] (desk 12477 1050)).putSlot .s0
      ⟨.serving, some .checkout, true, patron, some 3, false, [line], some 90, none⟩ with
    slip := { SlipUnit.fresh true with printer := .ready, idleTimer := some 60 } }

/-- R140, R181: PRINTER-FAULT stands behind the slot's own events. -/
theorem test_fault_comes_last :
    see (fun t => (kindsAtA t, t.slip.printer, t.slip.idleTimer)) (exec (.inactivityTimeout .s0) outOfPaper) =
        some ([.timedOut, .transactionClosed, .scanReady, .printerFault], .noPaper, none) ∧
      see kindsAtA (exec (.setMode .A) (atPort outOfPaper .A [0x70#8, 1#8])) =
        some [.modeChange, .transactionClosed, .scanReady, .printerFault] := by decide +kernel

/-- No slot open; and, in `outOfPaper`, an open one. -/
theorem witness_PortResetEndsThePortsWork :
    (∀ st, (desk 12477 1050).owner st = some .A → ((desk 12477 1050).slot st).state.isOpen = false) ∧
      (desk 12477 1050).running = true ∧ ((atPort (desk 12477 1050) .A [0x60#8]).port .A).phase = .executing ∧
      ((desk 12477 1050).port .A).phase ≠ .executing ∧ (desk 12477 1050).owner .s0 = some .A ∧
      (desk 12477 1050).owner .s2 ≠ some .A ∧
      (outOfPaper.running = true ∧ (outOfPaper.port .A).phase ≠ .executing ∧ outOfPaper.owner .s0 = some .A ∧
        (outOfPaper.slot .s0).state.isOpen = true ∧ (outOfPaper.slot .s0).draft ≠ [] ∧ outOfPaper.slip.queue.length < 8) :=
  ⟨(by intro st _; cases st <;> rfl), by decide +kernel⟩

/-- A port with a number of events waiting and a lost count. -/
def queued (n lost : Nat) : State :=
  (desk 12477 1050).putPort .A { PortState.fresh .staff with
    events := List.replicate n ⟨.scanReady, none, none, none, none⟩, lost := lost }

theorem witness_StatusByteAndPortReports :
    Executing (atPort (desk 12477 1050) .B [0x01#8]) .B 0x01#8 [] ∧ Executing (atPort (desk 12477 1050) .B [0x04#8]) .B 0x04#8 [] ∧
      (Executing (atPort (queued 8 255) .A [0x04#8]) .A 0x04#8 [] ∧
        8 ≤ ((atPort (queued 8 255) .A [0x04#8]).port .A).events.length) ∧ State.reset.running = true :=
  ⟨executing_at _ _ _ _ rfl, executing_at _ _ _ _ rfl, ⟨executing_at _ _ _ _ rfl, by decide +kernel⟩, rfl⟩

theorem witness_EventQueueAndAttention :
    Executing (atPort (queued 0 0) .A [0x02#8, 1#8]) .A 0x02#8 [1#8] ∧
      (Executing (atPort (queued 0 0) .A [0x03#8]) .A 0x03#8 [] ∧ ((atPort (queued 0 0) .A [0x03#8]).port .A).events = []) ∧
      (Executing (atPort (queued 1 0) .A [0x03#8]) .A 0x03#8 [] ∧
        ((atPort (queued 1 0) .A [0x03#8]).port .A).events = ⟨.scanReady, none, none, none, none⟩ :: []) ∧
      ((queued 7 0).port .A).events.length < 8 ∧
      (8 ≤ ((queued 8 254).port .A).events.length ∧ ((queued 8 254).port .A).lost < 255) ∧
      (8 ≤ ((queued 8 255).port .A).events.length ∧ ((queued 8 255).port .A).lost = 255) :=
  ⟨executing_at _ _ _ _ rfl, ⟨executing_at _ _ _ _ rfl, rfl⟩, ⟨executing_at _ _ _ _ rfl, rfl⟩, by decide +kernel, by decide +kernel,
    by decide +kernel⟩

theorem witness_StationAndTransactionStatus :
    (Executing (atPort (desk 12477 1050) .A [0x11#8, 4#8]) .A 0x11#8 [4#8] ∧ 3 < (4#8 : Byte).toNat) ∧
      Executing (atPort (desk 12477 1050) .A [0x11#8, 3#8]) .A 0x11#8 [BitVec.ofNat 8 (stationNumber .s3)] ∧
      Executing (atPort (desk 12477 1050) .A [0x24#8, 4#8]) .A 0x24#8 [4#8] ∧
      Executing (atPort (desk 12477 1050) .A [0x24#8, 3#8]) .A 0x24#8 [BitVec.ofNat 8 (stationNumber .s3)] :=
  ⟨⟨executing_at _ _ _ _ rfl, by decide⟩, executing_at _ _ _ _ rfl, executing_at _ _ _ _ rfl, executing_at _ _ _ _ rfl⟩

theorem witness_UnitStatusCommands :
    Executing (atPort (desk 12477 1050) .A [0x38#8]) .A 0x38#8 [] ∧ Executing (atPort (desk 12477 1050) .A [0x41#8]) .A 0x41#8 [] ∧
      Executing (atPort (desk 12477 1050) .A [0x52#8]) .A 0x52#8 [] ∧ Executing (atPort (desk 12477 1050) .A [0x62#8]) .A 0x62#8 [] :=
  ⟨executing_at _ _ _ _ rfl, executing_at _ _ _ _ rfl, executing_at _ _ _ _ rfl, executing_at _ _ _ _ rfl⟩

theorem stationByte_3 : (3#8 : Byte) = stationByte .s3 := rfl

/-- Each check of the four commands, at stations 3 and 4. -/
theorem witness_StationCommands :
    (((desk 12477 1050).port .A).role = .staff ∧ Executing (atPort (desk 12477 1050) .A [0x10#8, 4#8, 0#8]) .A 0x10#8 [4#8, 0#8] ∧
        3 < (4#8 : Byte).toNat ∧ (2#8 : Byte) ≠ 0#8 ∧ (2#8 : Byte) ≠ 1#8 ∧ (2#8 : Byte) ≠ 0xFF#8 ∧
        (0xFF#8 : Byte) = ownerCode none ∧ ((atSlot .serving .checkout patron [] (desk 12477 1050)).slot .s0).state ≠ .idle ∧
        ((desk 12477 1050).slot .s0).state = .idle) ∧
      Executing (atPort (desk 12477 1050) .A [0x14#8, 3#8, 0#8, 0#8, 0#8, 0#8]) .A 0x14#8 [3#8, 0#8, 0#8, 0#8, 0#8] ∧
      Executing (atPort (desk 12477 1050) .B [0x12#8, 3#8]) .B 0x12#8 [3#8] ∧
      Executing (atPort (desk 12477 1050) .B (0x13#8 :: 3#8 :: codeBytes item)) .B 0x13#8 (3#8 :: codeBytes item) :=
  ⟨⟨rfl, executing_at _ _ _ _ rfl, by decide, by decide, by decide, by decide, rfl, by decide +kernel, rfl⟩, executing_at _ _ _ _ rfl,
    executing_at _ _ _ _ rfl, executing_at _ _ _ _ rfl⟩

/-- A decoder in a state at station 0. -/
def decoding (d : Decoder) : State := (desk 12477 1050).putStation .s0 ⟨true, none, d, none, [], false, none⟩

/-- Elements of 10 and 10,000 ticks, 9 and 10,001; 12,499 and 12,500 in a space. -/
theorem witness_WandDecoderMoves :
    ((decoding .quiet).station .s0).decoder = .quiet ∧ ((decoding .waitQuiet).station .s0).decoder = .waitQuiet ∧
      ((decoding (.acquiring [60] 1)).station .s0).decoder = .acquiring [60] 1 ∧ (9 < 10 ∧ 10000 < 10001 ∧ 12499 < 12500) ∧
      1 % 2 = 1 ∧ (decoding .quiet).running = true := by decide +kernel

theorem witness_SymbolEndsInACodeOrAFault :
    (decoding (.acquiring (labelElements item 50 150 54) 91)).running = true ∧
      ((decoding (.acquiring (labelElements item 50 150 54) 91)).station .s0).decoder = .acquiring (labelElements item 50 150 54) 91 ∧
      91 % 2 = 1 ∧ decodeElements (labelElements item 50 150 54) 91 = some item ∧ decodeElements [60] 1 = none ∧
      (desk 12477 1050).owner .s0 = some .A ∧
      ({ desk 12477 1050 with config := { settings with stations := settings.stations.set .s0 ⟨none, 1500, 90⟩ } } :
        State).owner .s0 = none ∧ 1499 - 0 < 1500 ∧ 1500 ≤ 1500 - 0 := by decide +kernel

/-- Narrow 2, wide 3 and 10: the least and the greatest ratio. -/
theorem witness_LabelReadsFromEitherEnd :
    (codeValid patron = true ∧ 3 * 2 ≤ 2 * 3 ∧ 3 ≤ 5 * 2 ∧ 0 < 2 ∧ 2 < 3) ∧ (3 * 2 ≤ 2 * 10 ∧ 10 ≤ 5 * 2 ∧ 9 < 10) ∧
      decodeElements (labelElements patron 2 3 2) 91 = some patron := by decide +kernel

/-- Stations 0 and 1 with a wand at the sample before, station 1 without an owner. -/
def arriving : State :=
  let arrived : WandStation := ⟨false, some true, .disabled, none, [], false, none⟩
  { ((desk 12477 1050).putStation .s0 arrived).putStation .s1 arrived with
    config := { settings with stations := settings.stations.set .s1 ⟨none, 1500, 90⟩ } }

/-- R15, and the order of log entry 33. -/
theorem test_two_stations_change :
    see (fun t => ((t.port .A).events.map Event.station, (t.station .s1).decoder))
        (exec (.presenceSample ⟨true, true, false, false⟩) arriving) = some ([some .s0, some .s1], .quiet) := by decide +kernel

/-- Changes at stations 0 and 1 in one sample, with and without an owner, and none at stations 2 and 3. -/
theorem witness_PresenceSampleOfEveryStation :
    arriving.running = true ∧ (true ≠ (arriving.station .s0).present ∧ (arriving.station .s0).prevSample = some true) ∧
      (true ≠ (arriving.station .s1).present ∧ (arriving.station .s1).prevSample = some true) ∧
      (∀ st, st = .s2 ∨ st = .s3 → ¬ (false ≠ (arriving.station st).present ∧ (arriving.station st).prevSample = some false)) ∧
      arriving.owner .s0 = some .A ∧ arriving.owner .s1 = none :=
  ⟨rfl, by decide +kernel, by decide +kernel, by intro st h; rcases h with rfl | rfl <;> decide +kernel, by decide +kernel⟩

theorem witness_OpenTransactionOpensTheSlot :
    Executing (atPort (desk 12477 1050) .A [0x20#8, 4#8, 0#8, 0#8]) .A 0x20#8 [4#8, 0#8, 0#8] ∧ 3 < (4#8 : Byte).toNat ∧
      Executing (atPort (desk 12477 1050) .B [0x20#8, 3#8, 2#8, 1#8]) .B 0x20#8 [stationByte .s3, 2#8, 1#8] :=
  ⟨executing_at _ _ _ _ rfl, by decide, executing_at _ _ _ _ rfl⟩

/-- Station 0 in SERVING with some lines, at a port that gives a command, with some slips queued. -/
def serving (lines slips : Nat) (bytes : List Byte) : State :=
  atPort { (desk 12477 1050).putSlot .s0
      ⟨.serving, some .checkout, true, patron, some 3, false, List.replicate lines line, some 90, none⟩ with
    slip := { SlipUnit.fresh false with queue := List.replicate slips (composeSlip .s0 (desk 12477 1050)) } } .A bytes

theorem witness_CloseAndCancelTransaction :
    (Executing (serving 1 7 [0x21#8, 0#8]) .A 0x21#8 [stationByte .s0] ∧ Executing (serving 0 0 [0x22#8, 0#8]) .A 0x22#8 [stationByte .s0]) ∧
      (Executing (serving 0 0 [0x21#8, 4#8]) .A 0x21#8 [4#8] ∧ Executing (serving 0 0 [0x22#8, 4#8]) .A 0x22#8 [4#8]) ∧
      ((serving 1 7 [0x21#8, 0#8]).owner .s0 = some .A ∧
        ((serving 1 7 [0x21#8, 0#8]).slot .s0).state.isOpen = true ∧ ((serving 1 7 [0x21#8, 0#8]).slot .s0).slipWanted = true ∧
        ((serving 1 7 [0x21#8, 0#8]).slot .s0).draft ≠ [] ∧ (serving 1 7 [0x21#8, 0#8]).slip.queue.length < 8) ∧
      8 ≤ (serving 1 8 [0x21#8, 0#8]).slip.queue.length ∧ ((serving 0 0 [0x21#8, 0#8]).slot .s0).draft = [] ∧
      ((desk 12477 1050).slot .s0).state.isOpen = false ∧
      ((serving 0 0 [0x22#8, 0#8]).owner .s0 = some .A ∧
        ((serving 0 0 [0x22#8, 0#8]).slot .s0).state.isOpen = true ∧ ((serving 0 0 [0x22#8, 0#8]).slot .s0).draft = []) ∧
      ((serving 1 0 [0x22#8, 0#8]).slot .s0).draft ≠ [] ∧ (serving 0 0 [0x22#8, 2#8]).owner .s2 ≠ some .A ∧ 3 < (4#8 : Byte).toNat :=
  ⟨⟨executing_at _ _ _ _ rfl, executing_at _ _ _ _ rfl⟩, ⟨executing_at _ _ _ _ rfl, executing_at _ _ _ _ rfl⟩, by decide +kernel⟩

/-- A journal of some records. -/
def filled (n : Nat) (s : State) : State := withJournal (List.replicate n (rec 0 .checkout none none)) s

theorem length_filled (n : Nat) (s : State) : (filled n s).rm.journal.length = n := by simp [filled, withJournal]

/-- Station 0 in PATRON-BLOCKED, with OVERRIDE BLOCK given at Port A. -/
def blockedAt (n : Nat) (pfail : Bool) : State :=
  { atPort (filled n (atSlot .patronBlocked .checkout patron [] (desk 12477 1050))) .A [0x23#8, 0#8] with pfail := pfail }

theorem witness_OverrideBlockLetsThePatronThrough :
    Executing (blockedAt 4095 false) .A 0x23#8 [stationByte .s0] ∧
      ((blockedAt 4095 false).rm.journal.length = 4095 ∧ (blockedAt 4096 false).rm.journal.length = 4096) ∧
      ((blockedAt 0 false).owner .s0 = some .A ∧ (blockedAt 0 false).owner .s2 ≠ some .A) ∧
      (((blockedAt 0 false).slot .s0).state = .patronBlocked ∧ ((blockedAt 0 false).slot .s0).patron = some patron ∧
        ((desk 12477 1050).slot .s0).state ≠ .patronBlocked) ∧
      ((blockedAt 0 false).pfail = false ∧ (blockedAt 0 true).pfail = true) ∧
      (((blockedAt 0 false).port .A).role = .staff ∧ ((desk 12477 1050).port .B).role = .kiosk) ∧ 3 < (4#8 : Byte).toNat :=
  ⟨⟨rfl, rfl, rfl⟩, ⟨length_filled _ _, length_filled _ _⟩, by decide +kernel⟩

/-! Codes taken by the slot of station 0. -/

theorem takes_at {x : SlotState} {mode : TxMode} {who : Option Code} {c : Code} {rest : List Code} {s : State}
    (running : s.running = true) (power : s.pfail = false) (isOpen : x.isOpen = true) (owner : s.owner .s0 = some .A) :
    Takes (atSlot x mode who (c :: rest) s) .s0 .A c rest :=
  ⟨running, power, isOpen, owner, rfl⟩

theorem owner_desk (day minute : Nat) : (desk day minute).owner .s0 = some .A := rfl

theorem witness_PatronStepTakesThePatron :
    Takes (atSlot .awaitPatron .checkout none [patron] (desk 12477 1050)) .s0 .A patron [] ∧
      ((atSlot .awaitPatron .checkout none [patron] (desk 12477 1050)).slot .s0).state = .awaitPatron ∧ isBorrower patron = true :=
  ⟨takes_at rfl rfl rfl rfl, rfl, by decide +kernel⟩

/-- Station 0 in SERVING with the patron and a code, above a desk as it stands. -/
def lending (mode : TxMode) (c : Code) (s : State) : State := atSlot .serving mode patron [c] s

/-- What every clause about an item step in SERVING assumes. -/
theorem lending_takes (mode : TxMode) {c : Code} {s : State} (running : s.running = true) (power : s.pfail = false)
    (owner : s.owner .s0 = some .A) :
    Takes (lending mode c s) .s0 .A c [] ∧ ((lending mode c s).slot .s0).state = .serving ∧
      ((lending mode c s).slot .s0).mode = some mode ∧ ((lending mode c s).slot .s0).patron = some patron ∧
      ((lending mode c s).slot .s0).patronClass = some (borrowerClassOf patron) :=
  ⟨takes_at running power rfl owner, rfl, rfl, rfl, rfl⟩

def limitOne : Configuration := { settings with borrowerClasses := settings.borrowerClasses.set 3 ⟨1, none⟩ }
def noPeriod : Configuration := { settings with periods := settings.periods.set 4 (Vector.replicate 8 0) }

theorem not_barred (b : Code) : ¬ (desk 12477 1050).Barred b := by
  rintro (h | h)
  · cases h
  · exact absurd h.2 (by show ¬ (2000 ≤ 0); decide)

/-- One state for each refusal, in the order of the checks; a journal with room for two records where the step writes three. -/
theorem witness_CheckoutChecksInOrder :
    (withBlocks [⟨patron, .staff, .staff, 12400⟩] (desk 12477 1050)).Barred patron ∧
      ((filled 4096 (desk 12477 1050)).rm.journal.length + 1 > 4096 ∧ (filled 4094 (desk 12477 1050)).rm.journal.length + 3 > 4096) ∧
      (isItem item = true ∧ systemOf 0x30400001933054#56 ≠ settings.system ∧ isItem 0x30400001933054#56 = true ∧
        systemOf item = settings.system) ∧
      (((withFlags [⟨item, .withdrawn, none, 12400⟩] (desk 12477 1050)).flagOf item).map FlagEntry.flag = some .withdrawn ∧
        ((withFlags [⟨item, .reference, none, 12400⟩] (desk 12477 1050)).flagOf item).map FlagEntry.flag = some .reference ∧
        (withFlags [⟨item, .reserved, some other, 12400⟩] (desk 12477 1050)).flagOf item = some ⟨item, .reserved, some other, 12400⟩ ∧
        ((withFlags [⟨item, .missing, none, 12400⟩] (desk 12477 1050)).flagOf item).map FlagEntry.flag = some .missing) ∧
      (periodOf noPeriod (itemClassOf item) 3 = 0 ∧ periodOf settings (itemClassOf item) 3 ≠ 0) ∧
      (((withLoans [loanOf item patron 12499 none] (desk 12477 1050)).loanOf item).map Loan.borrower = some patron ∧
        ((withLoans [loanOf item other 12499 none] (desk 12477 1050)).loanOf item).map Loan.borrower ≠ some patron) ∧
      ((limitOne.borrowerClasses.get 3).loanLimit ≠ 255 ∧
        (limitOne.borrowerClasses.get 3).loanLimit ≤ (withLoans [loanOf third patron 12499 none] (desk 12477 1050)).loanCount patron) ∧
      32 ≤ (List.replicate 32 line).length ∧ (desk 65535 1050).dueAt 65535 1050 (itemClassOf item) 3 = .calendarEnd false ∧
      (desk 12477 1050).dueAt 12477 1050 (itemClassOf item) 3 = .due 12499 none {} :=
  ⟨.inl (by decide +kernel), ⟨by rw [length_filled]; decide, by rw [length_filled]; decide⟩, by decide +kernel⟩

theorem witness_CheckoutStepLendsTheItem :
    Takes (lending .checkout item (desk 12477 1050)) .s0 .A item [] ∧ ¬ (lending .checkout item (desk 12477 1050)).Barred patron ∧
      (isItem item = true ∧ systemOf item = (lending .checkout item (desk 12477 1050)).config.system ∧
        periodOf settings (itemClassOf item) (borrowerClassOf patron) ≠ 0) ∧
      ((lending .checkout item (desk 12477 1050)).flagOf item = none ∧ (lending .checkout item (desk 12477 1050)).loanOf item = none) ∧
      (lending .checkout item (desk 12477 1050)).loanCount patron < (settings.borrowerClasses.get (borrowerClassOf patron)).loanLimit ∧
      (lending .checkout item (desk 12477 1050)).dueAt 12477 1050 (itemClassOf item) (borrowerClassOf patron) = .due 12499 none {} ∧
      (lending .checkout item (desk 12477 1050)).rm.journal.length < 4096 ∧ (List.replicate 31 line).length < 32 :=
  ⟨(lending_takes .checkout rfl rfl rfl).1, not_barred patron, by decide +kernel⟩

/-- The third item of 6.13 with a flag and on loan to another borrower, above a journal of 4,093 records. -/
def lost (flag : ItemFlag) (reserver : Option Code) : State :=
  lending .checkout third (withFlags [⟨third, flag, reserver, 12400⟩] (withLoans [loanOf third other 12488 none]
    (filled 4093 (desk 12477 1050))))

/-- MISSING, and RESERVED for the patron; room for exactly the three records. -/
theorem witness_CheckoutClearsAndReturnsImplicitly :
    (∀ x ∈ [(ItemFlag.missing, (none : Option Code)), (.reserved, some patron)],
        Takes (lost x.1 x.2) .s0 .A third [] ∧ ¬ (lost x.1 x.2).Barred patron ∧
        (∀ f, (lost x.1 x.2).flagOf third = some f → f.flag = .missing ∨ (f.flag = .reserved ∧ f.reserver = some patron)) ∧
        (∀ l, (lost x.1 x.2).loanOf third = some l → l.borrower ≠ patron) ∧ (lost x.1 x.2).rm.journal.length + (1 + 1 + 1) ≤ 4096) ∧
      (isItem third = true ∧ systemOf third = settings.system ∧ periodOf settings (itemClassOf third) (borrowerClassOf patron) ≠ 0) ∧
      ((lost .missing none).flagOf third).isSome = true ∧ ((lost .missing none).loanOf third).isSome = true ∧
      (lost .missing none).loanCount patron < (settings.borrowerClasses.get (borrowerClassOf patron)).loanLimit ∧
      (lost .missing none).dueAt 12477 1050 (itemClassOf third) (borrowerClassOf patron) = .due 12499 none {} ∧
      (lost .missing none).rm.nextSeq < 65536 := by
  refine ⟨?_, by decide +kernel⟩
  intro x hx
  have room : (lost x.1 x.2).rm.journal.length + (1 + 1 + 1) ≤ 4096 := by
    show (filled 4093 (desk 12477 1050)).rm.journal.length + 3 ≤ 4096
    rw [length_filled]
  have free : ¬ (lost x.1 x.2).Barred patron := not_barred patron
  have lent : ∀ l, (lost x.1 x.2).loanOf third = some l → l.borrower ≠ patron := by
    intro l h
    have e : (lost x.1 x.2).loanOf third = some (loanOf third other 12488 none) := rfl
    rw [e] at h
    cases h
    decide
  refine ⟨(lending_takes .checkout rfl rfl rfl).1, free, ?_, lent, room⟩
  intro f h
  have e : (lost x.1 x.2).flagOf third = some ⟨third, x.1, x.2, 12400⟩ := rfl
  rw [e] at h
  cases h
  rcases List.mem_cons.mp hx with rfl | hx
  · exact .inl rfl
  · rcases List.mem_singleton.mp hx with rfl
    exact .inr ⟨rfl, rfl⟩

/-- Station 0 in RETURNING with a code. -/
def returning (c : Code) (s : State) : State := atSlot .returning .returning none [c] s

/-- The item on loan and overdue at station 0 in RETURNING, with the patron's balance 150 below the threshold, above a journal. -/
def overdue (records : Nat) : State :=
  returning item (withBalances [⟨patron, 1850⟩] (withLoans [loanOf item patron 12499 none] (filled records (desk 12512 940))))

theorem length_overdue (n : Nat) : (overdue n).rm.journal.length = n := length_filled n (desk 12512 940)

/-- An item not on loan; a fine of 200 whose test calls for a block, with room for the three records and for two. -/
theorem witness_ReturnStepTakesTheItemIn :
    (Takes (returning item (desk 12512 940)) .s0 .A item [] ∧ Takes (overdue 0) .s0 .A item []) ∧
      ((returning item (filled 4096 (desk 12512 940))).rm.journal.length = 4096 ∧ (overdue 4093).rm.journal.length + 3 ≤ 4096 ∧
        4096 < (overdue 4094).rm.journal.length + 3) ∧
      (isItem item = true ∧ (returning item (desk 12512 940)).loanOf item = none ∧
        ((returning item (desk 12512 940)).slot .s0).draft.length < 32 ∧ (returning item (desk 12512 940)).rm.journal.length < 4096) ∧
      32 ≤ (List.replicate 32 line).length ∧ (overdue 0).loanOf item = some (loanOf item patron 12499 none) ∧
      ((overdue 0).fineOf (loanOf item patron 12499 none) = 200 ∧ (overdue 0).tracks patron = true ∧
        min ((overdue 0).balanceOf patron + 200) 999999 = 2050 ∧ (overdue 0).testCallsFor patron 2050 = some .blockSet) :=
  ⟨⟨takes_at rfl rfl rfl rfl, takes_at rfl rfl rfl rfl⟩,
    ⟨length_filled _ _, by rw [length_overdue], by rw [length_overdue]; decide⟩, by decide +kernel⟩

/-- A loan with its renewals at the limit of 2. -/
def renewedTwice : Loan := { loanOf item patron 12499 none with renewals := 2 }

theorem witness_RenewChecksInOrder :
    (Takes (lending .renewing item (desk 12477 1050)) .s0 .A item [] ∧ ¬ (desk 12477 1050).Barred patron ∧
        (withBlocks [⟨patron, .staff, .staff, 12400⟩] (desk 12477 1050)).Barred patron) ∧
      (4096 < (filled 4096 (desk 12477 1050)).rm.journal.length + 1 ∧ 4096 < (filled 4094 (desk 12512 940)).rm.journal.length + 3) ∧
      (isItem item = true ∧ systemOf 0x30400001933054#56 ≠ settings.system ∧ (desk 12477 1050).loanOf item = none) ∧
      ((withLoans [loanOf item other 12499 none] (desk 12477 1050)).loanOf item = some (loanOf item other 12499 none) ∧
        (loanOf item other 12499 none).borrower ≠ patron) ∧
      ((withFlags [⟨item, .reserved, some patron, 12400⟩] (desk 12477 1050)).flagOf item).map FlagEntry.flag = some .reserved ∧
      ((settings.itemClasses.get renewedTwice.itemClass).maxRenewals ≤ renewedTwice.renewals ∧ renewedTwice.borrower = patron) ∧
      32 ≤ (List.replicate 32 line).length ∧ (desk 65535 1050).dueAt 65535 1050 (itemClassOf item) 3 = .calendarEnd false ∧
      computeDue noPeriod closures 12477 1050 (itemClassOf item) 3 = .notLoanable ∧
      (overdue 0).fineOf (loanOf item patron 12499 none) = 200 ∧ (overdue 0).testCallsFor patron 2050 = some .blockSet :=
  ⟨⟨(lending_takes .renewing rfl rfl rfl).1, not_barred patron, .inl (by decide +kernel)⟩,
    ⟨by rw [length_filled]; decide, by rw [length_filled]; decide⟩, by decide +kernel⟩

/-- A late loan renewed. -/
def renewing : State := lending .renewing item (withLoans [loanOf item patron 12472 none] (desk 12477 1050))

theorem witness_RenewStepRenewsTheLoan :
    Takes renewing .s0 .A item [] ∧ ¬ renewing.Barred patron ∧
      (isItem item = true ∧ (renewing.slot .s0).patron = some patron ∧ systemOf item = renewing.config.system) ∧
      (renewing.loanOf item = some (loanOf item patron 12472 none) ∧ (renewing.flagOf item).map FlagEntry.flag ≠ some .reserved ∧
        (loanOf item patron 12472 none).renewals < (settings.itemClasses.get (itemClassOf item)).maxRenewals) ∧
      (if 12477 * 1440 + 1050 < 12470 * 1440 + 600 then renewing.dueAt 12470 600 (itemClassOf item) (borrowerClassOf patron)
        else renewing.dueAt 12477 1050 (itemClassOf item) (borrowerClassOf patron)) = .due 12499 none {} ∧
      renewing.rm.journal.length + 3 ≤ 4096 ∧ 0 < renewing.fineOf (loanOf item patron 12472 none) :=
  ⟨(lending_takes .renewing rfl rfl rfl).1, not_barred patron, by decide +kernel⟩

theorem witness_SecondCardsAndCodesNotTaken :
    (Takes (lending .checkout patron (desk 12477 1050)) .s0 .A patron [] ∧
        ((lending .checkout patron (desk 12477 1050)).slot .s0).patron = some patron) ∧
      (Takes (atSlot .awaitPatron .checkout none [item] (desk 12477 1050)) .s0 .A item [] ∧ isItem item = true) ∧
      Takes (atSlot .patronBlocked .checkout patron [item] (desk 12477 1050)) .s0 .A item [] ∧
      (Takes (returning patron (desk 12477 1050)) .s0 .A patron [] ∧ isBorrower patron = true) ∧
      (Takes (lending .checkout other (desk 12477 1050)) .s0 .A other [] ∧ isBorrower other = true ∧
        ((lending .checkout other (desk 12477 1050)).slot .s0).patron ≠ some other ∧
        ((lending .checkout other (desk 12477 1050)).slot .s0).slipWanted = true ∧
        ((lending .checkout other (desk 12477 1050)).slot .s0).draft = []) ∧
      (serving 1 7 []).slip.queue.length < 8 ∧ 8 ≤ (serving 1 8 []).slip.queue.length :=
  ⟨⟨(lending_takes .checkout rfl rfl rfl).1, rfl⟩, ⟨takes_at rfl rfl rfl rfl, by decide +kernel⟩, takes_at rfl rfl rfl rfl,
    ⟨takes_at rfl rfl rfl rfl, by decide +kernel⟩, ⟨takes_at rfl rfl rfl rfl, by decide +kernel, by decide +kernel, rfl, rfl⟩,
    by decide +kernel, by decide +kernel⟩

theorem witness_InactivityEndsTheTransaction :
    ((serving 1 7 []).running = true ∧ ((serving 1 7 []).slot .s0).state.isOpen = true ∧
        ((serving 1 7 []).slot .s0).timer.isSome = true ∧ (serving 1 7 []).owner .s0 = some .A) ∧
      ((serving 1 7 []).slot .s0).draft ≠ [] ∧ ((serving 1 7 []).slot .s0).slipWanted = true ∧
      (serving 1 7 []).slip.queue.length < 8 ∧ 8 ≤ (serving 1 8 []).slip.queue.length ∧ ((serving 0 0 []).slot .s0).draft = [] := by
  decide +kernel

theorem witness_ItemStepsAreWholeAndHonourBlocks :
    exec (.checkoutStep .s0) (lending .checkout item (desk 12477 1050)) =
        .next (onCheckoutStep .s0 (lending .checkout item (desk 12477 1050))) ∧
      Instr.checkoutStep .s0 ∈ [Instr.checkoutStep .s0, .returnStep .s0, .renewStep .s0] :=
  ⟨rfl, by decide⟩

/-- A search in the BALANCE TABLE, a pattern nibble AH, a search in flight, and a hit and a miss. -/
theorem witness_SearchesAndEntriesRead :
    Executing (atPort (desk 12477 1050) .A ([0x30#8, 4#8, 0#8, 0#8, 0#8] ++ codeBytes patron)) .A 0x30#8
        ([4#8, 0#8, 0#8, 0#8] ++ codeBytes patron) ∧
      (tableOfByte 4#8 = some .balances ∧ fieldOfByte 0#8 = some .borrower ∧ hasFindField .balances .borrower = false) ∧
      (tableOfByte 0#8 = some .journal ∧ hasFindField .journal .borrower = true) ∧
      (∃ d ∈ digits 0x2A041700048212#56, 10 ≤ d ∧ d ≤ 14) ∧ Executing (atPort (desk 12477 1050) .A [0x31#8]) .A 0x31#8 [] ∧
      (((desk 12477 1050).putPort .A { PortState.fresh .staff with search := some ⟨.loans, .item, item, 0⟩ }).port .A).search =
        some ⟨.loans, .item, item, 0⟩ ∧
      (((withLoans [loanOf item other 12488 none] (desk 12477 1050)).rm.fieldCodes .loans .item)[0]? = some (some item) ∧
        ∀ q ∈ (digits item).zip (digits item), q.1 = 15 ∨ q.1 = q.2) ∧
      Executing (atPort (desk 12477 1050) .A [0x32#8, 6#8, 0#8, 0#8]) .A 0x32#8 [6#8, 0#8, 0#8] ∧
      (tableOfByte 5#8 = some .closures ∧ (desk 12477 1050).rm.count .closures ≤ 3 ∧ 2 < (desk 12477 1050).rm.count .closures) ∧
      (2 ≤ [item, third].length ∧ 1 < [item, third].length) ∧
      (branch.rm.journal[9]?.isSome ∧ branch.rm.blocks[0]?.isSome ∧ branch.rm.balances[0]?.isSome ∧ branch.rm.closures[2]?.isSome ∧
        (withLoans [loanOf item other 12488 none] branch).rm.loans[0]? = some (loanOf item other 12488 none) ∧
        (withFlags [⟨item, .missing, none, 0⟩] branch).rm.flags[0]? = some ⟨item, .missing, none, 0⟩) :=
  ⟨executing_at _ _ _ _ rfl, by decide +kernel, by decide +kernel, by decide +kernel, executing_at _ _ _ _ rfl, rfl,
    by decide +kernel, executing_at _ _ _ _ rfl, by decide +kernel⟩

/-- R41: a search behind the entry that leaves the LOAN TABLE moves down, and one at that entry comes to the next. -/
theorem test_removal_moves_the_search :
    [1, 0].map (fun position => see (fun t => ((t.port .B).search.map Search.position, t.rm.loans.map Loan.item))
        (exec (.returnStep .s0) ((withLoans [loanOf item patron 12499 none, loanOf third other 12499 none]
          (atSlot .returning .returning none [item] (desk 12477 1050))).putPort .B
            { PortState.fresh .kiosk with search := some ⟨.loans, .item, third, position⟩ }))) =
      [some (some 0, [third]), some (some 0, [third])] := by decide +kernel

theorem witness_RecordPaymentPaysTheBalance :
    Executing (atPort (desk 12477 1050) .A (0x33#8 :: (codeBytes patron ++ [0#8, 0#8, 1#8]))) .A 0x33#8
        (codeBytes patron ++ [0#8, 0#8, 1#8]) ∧
      ((filled 4095 (desk 12477 1050)).rm.journal.length + 1 ≤ 4096 ∧ 4096 < (filled 4096 (desk 12477 1050)).rm.journal.length + 1) ∧
      ((desk 12477 1050).port .A).role = .staff ∧ (borrowerValid patron = true ∧ borrowerValid item = false) ∧
      (0x0F#8 : Byte).toNat * 65536 + (0x42#8 : Byte).toNat * 256 + (0x3F#8 : Byte).toNat = 999999 ∧
      (desk 12477 1050).pfail = false ∧ (desk 12477 1050).testCallsFor patron 0 = none ∧
      (withBlocks [⟨patron, .localFines, .localLogic, 0⟩] (desk 12477 1050)).testCallsFor patron 0 = some .blockClear :=
  ⟨executing_at _ _ _ _ rfl, ⟨by rw [length_filled], by rw [length_filled]; decide⟩, by decide +kernel⟩

theorem witness_BlockAndFlagCommands :
    (((desk 12477 1050).port .A).role = .staff ∧
        Executing (atPort (desk 12477 1050) .A (0x34#8 :: (codeBytes patron ++ [6#8]))) .A 0x34#8 (codeBytes patron ++ [6#8]) ∧
        borrowerValid patron = true ∧ borrowerValid item = false ∧ 6 < (7#8 : Byte).toNat ∧ (6#8 : Byte) = BlockReason.code .other ∧
        (desk 12477 1050).pfail = false ∧ (desk 12477 1050).blockOf patron = none) ∧
      (1024 ≤ (withBlocks (List.replicate 1024 ⟨other, .staff, .staff, 0⟩) (desk 12477 1050)).rm.blocks.length ∧
        ((withBlocks [⟨patron, .staff, .staff, 0⟩] (desk 12477 1050)).blockOf patron).isSome = true) ∧
      (4096 ≤ (filled 4096 (desk 12477 1050)).rm.journal.length ∧ (filled 4095 (desk 12477 1050)).rm.journal.length < 4096) ∧
      Executing (atPort (desk 12477 1050) .A (0x35#8 :: codeBytes patron)) .A 0x35#8 (codeBytes patron) ∧
      (Executing (atPort (desk 12477 1050) .A (0x36#8 :: (codeBytes item ++ [1#8] ++ codeBytes patron))) .A 0x36#8
          (codeBytes item ++ [1#8] ++ codeBytes patron) ∧
        itemValid item = true ∧ itemValid patron = false ∧ 4 < (5#8 : Byte).toNat ∧ (4#8 : Byte) = ItemFlag.code .reference ∧
        (1#8 : Byte) = ItemFlag.code .reserved ∧ item ≠ BitVec.allOnes 56 ∧ (desk 12477 1050).flagOf item = none ∧
        512 ≤ (withFlags (List.replicate 512 ⟨third, .missing, none, 0⟩) (desk 12477 1050)).rm.flags.length ∧
        ((withFlags [⟨item, .missing, none, 0⟩] (desk 12477 1050)).flagOf item).isSome = true) ∧
      Executing (atPort (desk 12477 1050) .A (0x37#8 :: codeBytes item)) .A 0x37#8 (codeBytes item) :=
  ⟨⟨rfl, executing_at _ _ _ _ rfl, by decide +kernel, by decide +kernel, by decide, rfl, rfl, by decide +kernel⟩,
    ⟨List.length_replicate.ge, by decide +kernel⟩, ⟨by rw [length_filled], by rw [length_filled]; decide⟩, executing_at _ _ _ _ rfl,
    ⟨executing_at _ _ _ _ rfl, by decide +kernel, by decide +kernel, by decide, rfl, rfl, by decide +kernel, by decide +kernel,
      List.length_replicate.ge, by decide +kernel⟩, executing_at _ _ _ _ rfl⟩

/-! The calendar and the settings. -/

/-- The window of a state's settings at its clock. -/
def judged (s : State) : Bool := !s.clock.unset && inWindow s.config.windowStart s.config.windowEnd s.clock.minute

/-- Minutes 1439 and 1440, the last minutes of the calendar, and the window start at minute 1380 with the link IDLE, in a run and ARMED. -/
theorem witness_ClockIsSetAndAdvances :
    (Executing (atPort (desk 12477 1050) .A [0x40#8, 0xFF#8, 0xFF#8, 5#8, 0x9F#8]) .A 0x40#8 [0xFF#8, 0xFF#8, 5#8, 0x9F#8] ∧
        ((desk 12477 1050).port .A).role = .staff ∧ (5#8 : Byte).toNat * 256 + (0x9F#8 : Byte).toNat = 1439 ∧
        1439 < (5#8 : Byte).toNat * 256 + (0xA0#8 : Byte).toNat) ∧
      (65535 ≤ (desk 65535 1439).clock.day ∧ 1439 ≤ (desk 65535 1439).clock.minute) ∧
      ((desk 65534 1439).clock.day < 65535 ∧ (desk 65535 1438).clock.minute < 1439) ∧
      (stopped true false).running = false ∧ (atLink .armed .none (desk 12477 1050)).link.run = .armed ∧
      ((desk 12477 1050).modeWindow = judged (desk 12477 1050) ∧ (desk 12477 1050).link.windowOpen = judged (desk 12477 1050)) ∧
      ((desk 12477 1380).modeWindow ≠ judged (desk 12477 1380) ∧ (desk 12477 1380).link.windowOpen = false ∧
        judged (desk 12477 1380) = true ∧ (desk 12477 1380).link.run = .idle) ∧
      ({ desk 12477 1380 with mode := .night, modeHold := true } : State).mode = .night ∧
      ((atLink .contend .poll (desk 12477 1380)).link.run ≠ .idle ∧ (atLink .contend .poll (desk 12477 1380)).link.run ≠ .armed) ∧
      (onLink (fun l => { l with windowOpen := true }) (atLink .armed .none (desk 12477 1050))).link.windowOpen = true :=
  ⟨⟨executing_at _ _ _ _ rfl, rfl, by decide, by decide⟩, by decide +kernel⟩

theorem witness_ChangeOfModeReachesEveryBlock :
    Executing (atPort (desk 12477 1050) .A [0x70#8, 1#8]) .A 0x70#8 [1#8] ∧
      Executing (atPort (desk 12477 1050) .A [0x70#8, 2#8]) .A 0x70#8 [2#8] ∧ ((desk 12477 1050).port .A).role = .staff ∧
      (desk 12477 1050).mode = .day ∧ ({ desk 12477 1050 with mode := .night } : State).mode = .night ∧
      ((desk 12477 1050).port .A).events = [] ∧
      ((((desk 12477 1050).closingAt .s0 (some patron)).slot .s0).state = .closing) :=
  ⟨executing_at _ _ _ _ rfl, executing_at _ _ _ _ rfl, rfl, rfl, rfl, rfl, rfl⟩

/-- Each selector at its bound and past it: weekday 6 and 7, close 1440 and 1441, item class 15 and 16, borrower class 7 and 8, kind 1
and 2; a closure 120 and 121 days back. -/
theorem witness_CalendarSettingsAndClosures :
    (((desk 12477 1050).port .A).role = .staff ∧
        Executing (atPort (desk 12477 1050) .A [0x42#8, 6#8, 5#8, 0xA0#8, 5#8, 0xA0#8]) .A 0x42#8 [6#8, 5#8, 0xA0#8, 5#8, 0xA0#8] ∧
        (6#8 : Byte).toNat < 7 ∧ 6 < (7#8 : Byte).toNat ∧ (5#8 : Byte).toNat * 256 + (0xA0#8 : Byte).toNat = 1440 ∧
        1440 < (5#8 : Byte).toNat * 256 + (0xA1#8 : Byte).toNat) ∧
      (Executing (atPort (desk 12477 1050) .A [0x45#8, 15#8, 7#8, 73#8]) .A 0x45#8 [15#8, 7#8, 73#8] ∧ (15#8 : Byte).toNat < 16 ∧
        (7#8 : Byte).toNat < 8 ∧ 15 < (16#8 : Byte).toNat ∧ 7 < (8#8 : Byte).toNat) ∧
      (Executing (atPort (desk 12477 1050) .A [0x46#8, 15#8, 1#8, 16#8, 0#8, 0#8, 0#8, 0#8, 16#8]) .A 0x46#8
          [15#8, 1#8, 16#8, 0#8, 0#8, 0#8, 0#8, 16#8] ∧ (1#8 : Byte) = kindCode .hour ∧ 1 < (2#8 : Byte).toNat) ∧
      Executing (atPort (desk 12477 1050) .A [0x47#8, 7#8, 255#8, 0xFF#8, 0xFF#8]) .A 0x47#8 [7#8, 255#8, 0xFF#8, 0xFF#8] ∧
      Executing (atPort (desk 12477 1050) .A [0x49#8, 0x0F#8, 0x42#8, 0x40#8]) .A 0x49#8 [0x0F#8, 0x42#8, 0x40#8] ∧
      (Executing (atPort (desk 12477 1050) .A [0x43#8, 0x30#8, 0x45#8]) .A 0x43#8 [0x30#8, 0x45#8] ∧
        (0x30#8 : Byte).toNat * 256 + (0x45#8 : Byte).toNat + 120 = 12477 ∧
        (0x30#8 : Byte).toNat * 256 + (0x44#8 : Byte).toNat + 120 < 12477 ∧ (desk 12477 1050).pfail = false ∧
        12357 ∉ (desk 12477 1050).rm.closures ∧ (desk 12477 1050).rm.closures.length < 64 ∧ 12497 ∈ (desk 12477 1050).rm.closures ∧
        64 ≤ (List.range 64).length) ∧
      Executing (atPort (desk 12477 1050) .A [0x44#8, 0x30#8, 0xD1#8]) .A 0x44#8 [0x30#8, 0xD1#8] :=
  ⟨⟨rfl, executing_at _ _ _ _ rfl, by decide, by decide, by decide, by decide⟩,
    ⟨executing_at _ _ _ _ rfl, by decide, by decide, by decide, by decide⟩, ⟨executing_at _ _ _ _ rfl, rfl, by decide⟩,
    executing_at _ _ _ _ rfl, executing_at _ _ _ _ rfl,
    ⟨executing_at _ _ _ _ rfl, by decide, by decide, rfl, by decide +kernel, by decide +kernel, by decide +kernel, by decide⟩,
    executing_at _ _ _ _ rfl⟩

/-- A term limit on the twentieth day after the loan's; shut on every weekday; the last day of the calendar, from 10:00, 18:20 and
23:20, with opening hours to 20:00. -/
theorem witness_ComputeDueAndTheDueInstant :
    Executing (atPort (desk 12477 1050) .A [0x48#8, 15#8, 7#8]) .A 0x48#8 [15#8, 7#8] ∧
      (SettingsInRange (desk 12477 1050).config ∧
        SettingsInRange limited) ∧
      (15 < (16#8 : Byte).toNat ∧ 7 < (8#8 : Byte).toNat ∧ (desk 12477 1050).clock.unset = false ∧ State.reset.clock.unset = true) ∧
      (computeDue noPeriod closures 12477 1050 4 3 = .notLoanable ∧ (desk 65535 1050).dueAt 65535 1050 4 3 = .calendarEnd false ∧
        (desk 12477 1050).dueAt 12477 1050 4 3 = .due 12499 none {} ∧ 12477 ≤ 65535 ∧ 1050 ≤ 1439) ∧
      ((settings.borrowerClasses.get 3).termLimit = none ∧
        (limited.borrowerClasses.get 3).termLimit = some 12497 ∧ 12477 < 12497 ∧ 12497 < 12477 + 21) ∧
      ((settings.periods.get 9).get 3 = 4 ∧ (settings.itemClasses.get 9).kind = .hour ∧ (settings.itemClasses.get 4).kind = .day) ∧
      (4 * 60 ≤ openMinutes settings closures (65535 * 1440 + 600) ((min (65535 + 14) 65535 + 1) * 1440) ∧
        openMinutes settings closures (65535 * 1440 + 1100) ((min (65535 + 14) 65535 + 1) * 1440) < 4 * 60 ∧
        65535 * 1440 + 1100 + 4 * 60 < 65536 * 1440 ∧
        openMinutes settings closures (65535 * 1440 + 1400) ((min (65535 + 14) 65535 + 1) * 1440) < 4 * 60 ∧
        65536 * 1440 ≤ 65535 * 1440 + 1400 + 4 * 60) :=
  ⟨executing_at _ _ _ _ rfl,
    ⟨settings_in_range, limited_in_range⟩, by decide +kernel⟩

theorem witness_FinesFollowTheirRules :
    (SettingsInRange (desk 12478 630).config ∧ (desk 12478 630).clock.Legal) ∧
      ((loanOf item patron 12499 none).dueMinute = none ∧ (desk 12499 940).clock.day ≤ 12499 ∧ 12499 < (desk 12500 940).clock.day) ∧
      ((loanOf hourItem patron 12478 (some 630)).dueMinute = some 630 ∧ 630 ≤ 1440) ∧
      (desk 12478 630).clock.day * 1440 + (desk 12478 630).clock.minute ≤ 12478 * 1440 + 630 :=
  ⟨⟨settings_in_range, by unfold Clock.Legal; decide +kernel⟩, by decide +kernel⟩

/-! The SLIP UNIT. -/

/-- 32 spaces. -/
def blank : List Byte := List.replicate 32 0x20#8

/-- A last slip at station 0. -/
def withLast (bytes : List Byte) : State :=
  atPort { desk 12477 1050 with slip := { SlipUnit.fresh false with
    lastSlip := ⟨some { composeSlip .s0 (desk 12477 1050) with number := some 57 }, none, none, none⟩ } } .A bytes

/-- A printer state over the fresh SLIP UNIT. -/
def printer (x : PrinterState) : State := { desk 12477 1050 with slip := { SlipUnit.fresh false with printer := x } }

/-- A closing slot with its mode and its owner; slip 57, and its COPY as slip 58. -/
theorem witness_SlipsAreComposedAndPrinted :
    let original : Slip := { composeSlip .s0 (desk 12477 1050) with number := some 57 }
    let copy : Slip := { original with kind := .copy, copyOf := some (.loan, 57), number := some 58 }
    ((original.kind ≠ .copy → SlipKind.loan = original.kind ∧ 57 = 57) ∧
        (original.kind = .copy → original.copyOf = some (.loan, 57))) ∧
      ((copy.kind ≠ .copy → SlipKind.loan = copy.kind ∧ 57 = 58) ∧ (copy.kind = .copy → copy.copyOf = some (.loan, 57))) ∧
      (((serving 1 7 []).slot .s0).mode = some .checkout ∧ (serving 1 7 []).owner .s0 = some .A) ∧
      (original.number = some 57 ∧ copy.number = some 58 ∧ SlipKind.loan ≠ .copy) ∧ 99999 < 10 ^ 20 :=
  ⟨⟨fun _ => ⟨by decide +kernel, rfl⟩, by decide +kernel⟩, ⟨fun h => absurd rfl h, fun _ => rfl⟩, by decide +kernel⟩

theorem witness_SlipCommandsAndTheQueue :
    (Executing (atPort (desk 12477 1050) .A [0x50#8, 7#8]) .A 0x50#8 [7#8] ∧ 6 < (7#8 : Byte).toNat) ∧
      (1 ≤ (List.replicate 6 blank).length ∧ (List.replicate 6 blank).length ≤ 6 ∧ (∀ l ∈ List.replicate 6 blank, l.length = 32) ∧
        Executing (atPort (desk 12477 1050) .B (0x50#8 :: (BitVec.ofNat 8 6 :: (List.replicate 6 blank).flatten))) .B 0x50#8
          (BitVec.ofNat 8 6 :: (List.replicate 6 blank).flatten)) ∧
      (Executing (withLast [0x51#8, 0#8]) .A 0x51#8 [stationByte .s0] ∧ (withLast [0x51#8, 0#8]).owner .s0 = some .A ∧
        (withLast [0x51#8, 0#8]).slip.lastSlip.get .s0 = some { composeSlip .s0 (desk 12477 1050) with number := some 57 }) ∧
      ((desk 12477 1050).slip.lastSlip.get .s0 = none ∧ (desk 12477 1050).owner .s2 ≠ some .A ∧ 3 < (4#8 : Byte).toNat) ∧
      (((desk 12477 1050).port .A).role = .staff ∧ blank.length = 32 ∧
        Executing (atPort (desk 12477 1050) .A (0x53#8 :: blank)) .A 0x53#8 blank ∧
        Executing (atPort (desk 12477 1050) .A [0x54#8, 0#8, 4#8]) .A 0x54#8 [0#8, 4#8]) ∧
      ((printer .asleep).slip.printer = .asleep ∧ (printer .asleep).slip.queue = []) ∧
      ((printer .ready).slip.printer = .ready ∧ (printer .ready).slip.paperOut = false ∧ (printer .ready).slip.feedOwed = false) ∧
      (outOfPaper.slip.printer = .ready ∧ outOfPaper.slip.paperOut = true) ∧
      (printer .noPaper).slip.printer ≠ .ready ∧ (printer .noPaper).slip.printer ≠ .asleep :=
  ⟨⟨executing_at _ _ _ _ rfl, by decide⟩, ⟨by decide, by decide, by decide +kernel, executing_at _ _ _ _ rfl⟩,
    ⟨⟨rfl, rfl, rfl⟩, rfl, rfl⟩, ⟨rfl, by decide +kernel, by decide⟩,
    ⟨rfl, rfl, executing_at _ _ _ _ rfl, executing_at _ _ _ _ rfl⟩, by decide +kernel⟩

theorem witness_PrinterEvents :
    ((printing .waking 0 0).running = true ∧ (printing .waking 0 0).slip.printer = .waking ∧
        (printing .waking 0 0).slip.queue.length = 1 ∧ (printing .waking 0 0).slip.paperOut = false) ∧
      (printing .printing 0 4).slip.printer = .printing ∧ (printing .ready 0 0).slip.printer ≠ .printing ∧
      (printing .noPaper 0 0).slip.printer = .noPaper ∧ (printing .ready 0 0).slip.printer ≠ .noPaper ∧
      (enterReady (printer .printing)).slip.printer = .ready ∧ (enterReady (printer .printing)).slip.idleTimer.isSome = true ∧
      (printer .settling).slip.printer = .settling := by decide +kernel

/-- Slip 57 at its last line with station 1 waiting. -/
def admitting : State := ({ printing .printing 0 6 with slots := (printing .printing 0 6).slots } : State).closingAt .s1 none

/-- Station 1 closes with another borrower's card to reopen with. -/
def admittingReopen : State := (printing .printing 0 6).closingAt .s1 (some other)

/-- R111: the slot admitted to the SLIP QUEUE reopens, with and without PFAIL. -/
theorem test_admitted_slot_reopens :
    see (fun t => ((t.slot .s1).state, (t.slot .s1).reopen, kindsAtA t)) (exec .linePrinted admittingReopen) =
        some (.serving, none, [.slipPrinted, .transactionClosed, .patronOk]) ∧
      see (fun t => ((t.slot .s1).state, (t.slot .s1).reopen)) (exec .linePrinted { admittingReopen with pfail := true }) =
        some (.awaitPatron, some other) := by decide +kernel

theorem witness_LinePrintedSendsTheNext :
    ((printing .printing 2 0).running = true ∧ (printing .printing 2 0).slip.printer = .printing ∧
        (printing .printing 2 0).slip.feedLeft = 2 ∧ (printing .printing 1 0).slip.feedLeft = 1) ∧
      ((printing .printing 0 5).slip.queue.all (fun sl => decide (5 + 1 < sl.printed.length)) = true ∧
        (printing .printing 0 6).slip.queue.all (fun sl => decide (sl.printed.length ≤ 6 + 1)) = true ∧
        (printing .printing 0 6).slip.waiting = [] ∧ (printing .printing 0 6).slip.queue.tail = [] ∧
        (queueSlip (composeSlip .s1 (desk 12477 1050)) (printing .printing 0 6)).slip.queue.tail ≠ []) ∧
      (admitting.slip.waiting.map Prod.fst = [.s1] ∧ admitting.owner .s1 = some .A ∧ (admitting.slot .s1).reopen = none ∧
        (admitting.port .A).events = [] ∧ admitting.slip.queue.map Slip.port = [.A]) ∧
      (admittingReopen.slip.waiting.map Prod.fst = [.s1] ∧ admittingReopen.slip.feedOwed = false ∧
        (admittingReopen.slot .s1).reopen = some other) := by decide +kernel

/-! The UPLOAD LINK. -/

theorem witness_RunsBeginAndAreStopped :
    ((desk 12477 1050).running = true ∧ ({ (desk 12477 1050).link with run := .armed, retry := some 0 } : Link).run = .armed) ∧
      (((desk 12477 1050).port .A).role = .staff ∧ Executing (atPort (desk 12477 1050) .A [0x60#8]) .A 0x60#8 [] ∧
        (desk 12477 1050).link.run = .idle) ∧
      (Executing (atPort (atLink .contend .poll (desk 12477 1050)) .A [0x61#8]) .A 0x61#8 [] ∧
        ¬ ((atLink .contend .poll (desk 12477 1050)).link.run = .idle ∨ (atLink .contend .poll (desk 12477 1050)).link.run = .armed)) :=
  ⟨⟨rfl, rfl⟩, ⟨rfl, executing_at _ _ _ _ rfl, rfl⟩, executing_at _ _ _ _ rfl, by decide +kernel⟩

/-- Addresses 1 and 254, nibbles 9, minutes 1439, and each of them one past. -/
theorem witness_SetLinkRejudgesTheWindow :
    Executing (atPort (desk 12477 1050) .A [0x63#8, 254#8, 0x99#8, 0x99#8, 5#8, 0x9F#8, 5#8, 0x9F#8, 0#8]) .A 0x63#8
        [254#8, 0x99#8, 0x99#8, 5#8, 0x9F#8, 5#8, 0x9F#8, 0#8] ∧
      ((desk 12477 1050).port .A).role = .staff ∧ (254#8 : Byte) ≠ 0xFF#8 ∧ (254#8 : Byte) ≠ 0#8 ∧
      ¬ 9 < (0x99#8 : Byte).toNat / 16 ∧ ¬ 9 < (0x99#8 : Byte).toNat % 16 ∧ 9 < (0xA0#8 : Byte).toNat / 16 ∧
      9 < (0x0A#8 : Byte).toNat % 16 ∧ ¬ 1439 < (5#8 : Byte).toNat * 256 + (0x9F#8 : Byte).toNat ∧
      1439 < (5#8 : Byte).toNat * 256 + (0xA0#8 : Byte).toNat ∧ (desk 12477 1050).link.run = .idle ∧
      (atLink .contend .poll (desk 12477 1050)).link.run ≠ .idle ∧ (1380 ≤ 1439 ∧ 330 ≤ 1439 ∧ 0 ≤ 1439) :=
  ⟨executing_at _ _ _ _ rfl, by decide +kernel⟩

/-- The branch of 8.9 seeking a gap of a count. -/
def seeking (n : Nat) (frame : FrameInFlight) : State := onLink (fun l => { l with seek := .gap n }) (atLink .contend frame branch)

theorem witness_GapIsSoughtAndWon :
    ((seeking 7 .poll).running = true ∧ (seeking 7 .poll).link.run = .contend ∧ (seeking 7 .poll).link.jam = none ∧
        (seeking 7 .poll).link.seek = .gap 7 ∧ (seeking 7 .poll).link.frame = .poll) ∧
      (seeking 8 (.data none)).link.seek = .gap 8 ∧ (seeking 8 (.data none)).link.frame = .data none ∧
      (seeking 8 (.data none)).rm.journal.length = 10 ∧ 7 < 8 := by decide +kernel

/-- The branch of 8.9 with an attempt count. -/
def attempted (n : Nat) : State := onLink (fun l => { l with attempts := n }) (atLink .sendData (.data (some (500, 8))) branch)

theorem witness_CollisionsBackOff :
    ((attempted 10).running = true ∧ (attempted 10).link.run = .sendData ∧ (attempted 10).link.attempts + 1 < 12 ∧
        12 ≤ (attempted 11).link.attempts + 1) ∧
      (onLink (fun l => { l with jam := some .backoff }) (attempted 1)).link.jam = some .backoff ∧
      (onLink (fun l => { l with jam := some .reply }) (attempted 1)).link.jam = some .reply ∧
      (onLink (fun l => { l with jam := some .runOver }) (attempted 1)).link.jam = some .runOver ∧
      ((onLink (fun l => { l with seek := .backoff 1 }) (seeking 0 .poll)).link.seek = .backoff 1 ∧
        (onLink (fun l => { l with seek := .backoff 1 }) (seeking 0 .poll)).link.run = .contend) := by decide +kernel

/-- The branch of 8.9 with a reply prepared or being sent. -/
def replying (sending : Bool) : State :=
  onLink (fun l => { l with reply := some ⟨4410, 2, sending⟩ }) (atLink .sendReply .poll branch)

/-- The branch of 8.9 awaiting an answer after some timeouts. -/
def awaiting (n : Nat) : State :=
  onLink (fun l => { l with replyTimer := true, timeouts := n }) (atLink .awaitAck (.data (some (500, 8))) branch)

theorem witness_FramesSentRepliesAndTimeouts :
    ((attempted 0).running = true ∧ (attempted 0).link.run = .sendData ∧ (atLink .sendPoll .poll branch).link.run = .sendPoll) ∧
      ((replying false).link.run = .sendReply ∧ (replying false).link.jam = none ∧
        (replying false).link.reply = some ⟨4410, 2, false⟩ ∧ (replying true).link.reply = some ⟨4410, 2, true⟩) ∧
      ((awaiting 1).running = true ∧ (awaiting 1).link.replyTimer = true ∧ (awaiting 1).link.run = .awaitAck ∧
        (awaiting 1).link.timeouts + 1 < 3 ∧ 3 ≤ (awaiting 2).link.timeouts + 1) := by decide +kernel

theorem witness_FrameBytesAreReceivedWhole :
    65535 < 65536 ∧ (List.replicate 240 (0#8 : Byte)).length ≤ 240 ∧ (1#8 : Byte) ≠ 0#8 := by decide +kernel

theorem branch_canonical : branch.rm.Canonical where
  journal := by decide +kernel
  loans := by unfold Rising; decide +kernel
  blocks := by unfold Rising; decide +kernel
  flags := by unfold Rising; decide +kernel
  balances := by decide +kernel
  closures := by unfold Rising; decide +kernel

theorem branch_numbered : branch.rm.Numbered := by
  refine ⟨by decide +kernel, ?_⟩
  intro i r h
  obtain ⟨hi, rfl⟩ := List.getElem?_eq_some_iff.mp h
  have : i < 10 := hi
  interval_cases i <;> rfl

/-- Eight records in flight of which three, a FINE among them, are confirmed. -/
theorem witness_AckConfirmsTheOldestRecords :
    ((awaiting 0).Canonical ∧ (awaiting 0).Numbered) ∧
      ((awaiting 0).running = true ∧ (awaiting 0).link.run = .awaitAck ∧ (awaiting 0).link.jam = none ∧
        (awaiting 0).link.frame = .data (some (500, 8)) ∧ 500 < 65536 ∧ 3 ≤ 8 ∧ (awaiting 0).config.address < 256 ∧
        (awaiting 0).link.seek = .off) ∧
      ((awaiting 0).pfail = false ∧ ({ awaiting 0 with pfail := true } : State).pfail = true) ∧
      (((awaiting 0).rm.journal.take (min 3 8)).map Record.kind).contains .fine = true :=
  ⟨⟨⟨branch_canonical, fun image h => by cases h⟩, ⟨branch_numbered, fun image h => by cases h⟩⟩, by decide +kernel⟩

/-- A central time one minute after the desk's, which is not taken, and one two minutes after it, which is. -/
theorem witness_BusyAndEndFrames :
    ((awaiting 0).running = true ∧ (awaiting 0).link.jam = none ∧ 500 < 65536 ∧ (awaiting 0).config.address < 256 ∧
        (awaiting 0).link.seek = .off ∧ (awaiting 0).link.run = .awaitAck ∧ (awaiting 0).link.frame = .data (some (500, 8))) ∧
      (12512 < 65536 ∧ 1440 < 65536 ∧ (atLink .awaitUpdate .poll branch).link.run = .awaitUpdate) ∧
      ¬ (1380 ≤ 1439 ∧ (branch.clock.unset = true ∨ 12512 * 1440 + 1380 + 1 < branch.clock.day * 1440 + branch.clock.minute ∨
          branch.clock.day * 1440 + branch.clock.minute + 1 < 12512 * 1440 + 1380)) ∧
      (1381 ≤ 1439 ∧ branch.clock.day * 1440 + branch.clock.minute + 1 < 12512 * 1440 + 1381) := by decide +kernel

theorem witness_UpdatesAreAppliedOnce :
    let s := atLink .awaitUpdate .poll branch
    (∀ count, s.rm.lastRun ≠ some (4410, count)) ∧
      (s.running = true ∧ s.link.run = .awaitUpdate ∧ s.link.jam = none ∧ 4409 < 65536 ∧ s.config.address < 256 ∧
        (List.replicate 234 (0#8 : Byte)).length % 18 = 0 ∧ (List.replicate 234 (0#8 : Byte)).length ≤ 234 ∧ s.pfail = false ∧
        ({ s with pfail := true } : State).pfail = true ∧ s.link.seek = .off) ∧
      (s.rm.lastRun = some (4409, 3) ∧ s.hears = true ∧ s.rm.lastBroadcast ≠ some 4409) ∧
      (applyEntry ⟨0#8, 0, none, 0⟩ s = none ∧ applyEntry ⟨7#8, 0, none, 0⟩ s ≠ none) ∧
      (List.replicate 216 (0#8 : Byte)).length ≤ 216 :=
  ⟨(by intro count h; cases h), by decide +kernel⟩

/-- An entry of a kind for a key code. -/
def entry (kind : Byte) (key : Code) (second : Option Code) (parameter : Nat) : UpdateEntry := ⟨kind, key, second, parameter⟩

theorem witness_UpdateEntriesChangeTheirTables :
    ((entry 1#8 patron none 1).kind = 0x01#8 ∧ borrowerValid patron = true ∧ (branch.blockOf patron).isSome = true ∧
        (desk 12477 1050).blockOf patron = none ∧ (desk 12477 1050).rm.blocks.length < 1024 ∧ borrowerValid item = false) ∧
      (itemValid item = true ∧ BitVec.ofNat 8 1 = ItemFlag.code .reserved ∧ (desk 12477 1050).flagOf item = none ∧
        itemValid patron = false) ∧
      ((withLoans [loanOf item patron 12499 none] (desk 12477 1050)).loanOf item = some (loanOf item patron 12499 none) ∧
        some patron = some (loanOf item patron 12499 none).borrower) ∧
      (12497 % 65536 ∈ (desk 12477 1050).rm.closures ∧ 12356 % 65536 + 120 < (desk 12477 1050).clock.day ∧
        12357 % 65536 ∉ (desk 12477 1050).rm.closures ∧ (desk 12477 1050).clock.day ≤ 12357 % 65536 + 120 ∧
        (desk 12477 1050).rm.closures.length < 64 ∧ 64 ≤ (List.range 64).length) ∧
      7 < (8#8 : Byte).toNat ∧ applyEntry (entry 7#8 0 none 12497) (desk 12477 1050) ≠ none := by decide +kernel

theorem witness_JournalGrowsAndCollectionsHold :
    exec .newMinute { branch with pfail := true } = .next (onNewMinute { branch with pfail := true }) ∧
      ((∀ f, Instr.newMinute ≠ .ackFrame f) ∧ ∀ a b, Instr.newMinute ≠ .start a b) ∧
      (3584 ≤ (filled 3584 (desk 12477 1050)).rm.journal.length ∧ (filled 3583 (desk 12477 1050)).rm.journal.length < 3584) ∧
      ({ branch with pfail := true } : State).pfail = true ∧ Instr.newMinute ≠ .pfailFall ∧
      (filled 3584 (desk 12477 1050)).armed = true :=
  ⟨rfl, ⟨(by intro f h; cases h), (by intro a b h; cases h)⟩, ⟨by rw [length_filled], by rw [length_filled]; decide⟩, by decide +kernel⟩

/-! The invariants, at states that are not the one after reset. -/

/-- The branch of 8.9 with an item on loan and another reserved. -/
def kept : State := withFlags [⟨third, .reserved, some other, 12400⟩] (withLoans [loanOf item patron 12499 none] branch)

theorem kept_sound : kept.rm.Sound where
  balances b := by
    by_cases h : b = patron
    · subst h; decide +kernel
    · have h' : ∀ r ∈ kept.rm.journal, r.isTrackedOf b = false := by
        intro r hr
        have : r.isMoneyOf patron = true ∨ (r.kind == .fine || r.kind == .payment) = false :=
          (by decide +kernel : ∀ r ∈ kept.rm.journal, r.isMoneyOf patron = true ∨ (r.kind == .fine || r.kind == .payment) = false) r hr
        unfold Record.isTrackedOf Record.isMoneyOf at *
        rcases this with k | k
        · simp only [Bool.and_eq_true, beq_iff_eq] at k
          simp [k.2, Ne.symm h]
        · simp [k]
      have hb : (patron == b) = false := by simpa using Ne.symm h
      rw [if_neg (by rintro ⟨r, hr, k⟩; rw [h' r hr] at k; cases k)]
      show [(⟨patron, 2050⟩ : Balance)].find? (fun x => x.borrower == b) = none
      simp [hb]
  loans := by decide +kernel
  flags := by decide +kernel

theorem witness_RecordMemoryStaysCanonical :
    kept.Canonical ∧ kept.Numbered ∧ kept.Sound ∧ kept.clock.Legal ∧ step kept = .next (idleStep kept) :=
  ⟨⟨⟨branch_canonical.journal, by unfold Rising; decide +kernel, branch_canonical.blocks, by unfold Rising; decide +kernel,
      branch_canonical.balances, branch_canonical.closures⟩, fun image h => by cases h⟩,
    ⟨branch_numbered, fun image h => by cases h⟩, ⟨kept_sound, fun image h => by cases h⟩,
    by unfold Clock.Legal; decide +kernel, rfl⟩

/-- Three records SENT in SEND-DATA. -/
def sending : State := markSent 3 (atLink .sendData (.data (some (500, 3))) branch)

theorem witness_SentRecordsStayTheOldest : sending.SentFirst ∧ step sending = .next (idleStep sending) := by
  refine ⟨⟨⟨3, by decide, ?_, fun _ => .inl rfl⟩, (by intro h; cases h)⟩, rfl⟩
  intro i r h
  obtain ⟨hi, rfl⟩ := List.getElem?_eq_some_iff.mp h
  have : i < 10 := hi
  interval_cases i <;> first
    | exact ⟨fun _ => by decide, fun _ => rfl⟩
    | exact ⟨fun h => absurd h Bool.false_ne_true, fun h => absurd h (by decide)⟩

/-- A slot waiting in CLOSING, in DAY and in NIGHT. -/
theorem witness_SlotsStayLawful :
    ((changeMode .night admitting).mode = .night ∧ (changeMode .night admitting).NightClosed ∧
        ((changeMode .night admitting).slot .s1).state = .closing) ∧
      admitting.NightClosed ∧ admitting.Owned ∧ admitting.WaitsMatch ∧ step admitting = .next (idleStep admitting) :=
  ⟨⟨by decide +kernel, (by intro _ st; cases st <;> decide +kernel), by decide +kernel⟩, (by intro h; cases h), (by intro st _; cases st <;> decide +kernel), ⟨by decide +kernel, by intro st; cases st <;> decide +kernel⟩,
    rfl⟩

theorem witness_QueuesClockAndGeneratorStayLegal :
    (queued 8 255).Bounded ∧ (queued 8 255).ResultsMatch ∧ (queued 8 255).clock.Legal ∧ SettingsInRange (queued 8 255).config ∧
      step (queued 8 255) = .next (idleStep (queued 8 255)) ∧ (queued 8 255).link.random ≠ 0 :=
  ⟨⟨(by intro p; cases p <;> decide +kernel), (by intro st; cases st <;> decide +kernel), (by intro st; cases st <;> decide +kernel),
    by decide +kernel⟩, (by intro p; cases p <;> decide +kernel), by unfold Clock.Legal; decide +kernel, settings_in_range,
    rfl, by decide +kernel⟩

end Sys2Proof.Machine.Tests
end

section
/-! PROOF. O15: the four status commands of either role (R44, R65, R142, R166), and the ranges of the numbers they answer. -/

namespace Sys2Proof.Machine

/-! ### The rows, and the answer of a command that only reports -/

theorem exec_tableCounts (p : Port) (s : State) :
    exec (.tableCounts p) s = .next (runCommand 0x38#8 tableCounts p s) := rfl

theorem exec_readClock (p : Port) (s : State) :
    exec (.readClock p) s = .next (runCommand 0x41#8 readClock p s) := rfl

theorem exec_printerStatus (p : Port) (s : State) :
    exec (.printerStatus p) s = .next (runCommand 0x52#8 printerStatus p s) := rfl

theorem exec_linkStatus (p : Port) (s : State) :
    exec (.linkStatus p) s = .next (runCommand 0x62#8 linkStatus p s) := rfl

/-- A command of either role whose rule answers OK and changes nothing leaves its result in the port and all else as it was. -/
theorem runCommand_report {s : State} {p : Port} {code : Byte} {params bytes : List Byte} {cmd : Command}
    (h : Executing s p code params) (either : staffOnly code = false) (answer : cmd p params s = done bytes s) :
    runCommand code cmd p s = s.withResult p (0x00#8 :: bytes) := by
  rw [runCommand_eq cmd h, answerOf_allowed cmd (.inl either), answer, deliver_done]

/-! ### The numbers reported -/

/-- The pending records are those not SENT (R44, R166). -/
theorem pendingCount_eq (s : State) :
    s.pendingCount = (s.rm.journal.filter (fun r => r.sent = false)).length := by
  simp [State.pendingCount, List.countP_eq_length_filter]

/-- Where no record from position `n` on is SENT, at most `n` records are SENT. -/
theorem length_sub_unsent_le {l : List Record} {n : Nat} (unsent : ∀ r ∈ l.drop n, r.sent = false) :
    l.length - (l.filter (fun r => r.sent = false)).length ≤ n := by
  have tail : (l.drop n).filter (fun r => r.sent = false) = l.drop n :=
    List.filter_eq_self.mpr fun r hr => by simpa using unsent r hr
  have le := ((List.drop_sublist n l).filter (fun r => r.sent = false)).length_le
  rw [tail, List.length_drop] at le
  omega

/-- At most eight records are SENT (R33). -/
theorem sent_le_eight {s : State} (h : s.SentFirst) :
    s.rm.journal.length - (s.rm.journal.filter (fun r => r.sent = false)).length ≤ 8 := by
  obtain ⟨⟨n, hn, oldest, _⟩, _⟩ := h
  refine (length_sub_unsent_le (n := n) fun r hr => ?_).trans hn
  obtain ⟨i, hi⟩ := List.mem_iff_getElem?.mp hr
  rw [List.getElem?_drop] at hi
  have notSent : ¬ r.sent = true := fun sent => absurd ((oldest _ _ hi).mp sent) (by omega)
  simpa using notSent

/-- Each station waits for the printer at most once (R131), and there are four. -/
theorem waiting_le_four {s : State} (h : s.WaitsMatch) : s.slip.waiting.length ≤ 4 := by
  have sub : s.slip.waiting.map Prod.fst ⊆ allStations := fun st _ => by cases st <;> decide
  simpa [allStations] using (h.1.subperm sub).length_le

/-- The number of the slip at the head of the queue, absent without one (R142). -/
theorem headNumber_bytes (u : SlipUnit) :
    be16OrAbsent u.headNumber =
      match u.queue with
      | [] => [0xFF#8, 0xFF#8]
      | sl :: _ => be16OrAbsent sl.number := by
  unfold SlipUnit.headNumber
  cases u.queue <;> rfl

/-- Settles O15: each row by its answer (the permission check lets either role pass), with the ranges from the invariants of the SENT
records, the queues and the closing-wait list. -/
theorem unitStatusCommands : Obligations.UnitStatusCommands := by
  unfold Obligations.UnitStatusCommands
  refine ⟨fun p s h => ⟨?counts, sent_le_eight⟩, fun p s h => ?clock,
    fun p s h => ⟨?printer, State.Bounded.slips, waiting_le_four⟩, fun p s h => ?link⟩
  case counts =>
    rw [exec_tableCounts, runCommand_report h rfl rfl, pendingCount_eq]
    rfl
  case clock =>
    rw [exec_readClock, runCommand_report h rfl rfl]
    rfl
  case printer =>
    rw [exec_printerStatus, runCommand_report h rfl rfl, headNumber_bytes]
    rfl
  case link =>
    rw [exec_linkStatus, runCommand_report h rfl rfl, pendingCount_eq]
    rfl

end Sys2Proof.Machine
end

section
/-! PROOF. O12: the status byte and the attention line (R171, R183), and the commands IDENTIFY and PORT STATUS (R185, R186). -/

namespace Sys2Proof.Machine

/-! ### The status byte -/

theorem getLsbD_statusField (set : Bool) (mask : Byte) (i : Nat) :
    (statusField set mask).getLsbD i = (set && mask.getLsbD i) := by
  cases set <;> simp [statusField]

/-- The data byte may be accessed in every phase but EXECUTING (TABLE 9-2). -/
theorem isReady_eq (ph : Phase) : ph.isReady = decide (ph ≠ .executing) := by
  cases ph <;> rfl

/-- Each bit of the status byte is the or of the fields whose masks hold it (TABLE 11-1). -/
theorem getLsbD_statusByte (s : State) (p : Port) (i : Nat) :
    (s.statusByte p).getLsbD i =
      (decide ((s.port p).phase ≠ .executing) && (0x80#8).getLsbD i ||
        decide ((s.port p).phase = .result) && (0x40#8).getLsbD i ||
        decide ((s.port p).phase = .executing) && (0x20#8).getLsbD i ||
        !(s.port p).events.isEmpty && (0x10#8).getLsbD i ||
        (s.port p).search.isSome && (0x08#8).getLsbD i || (s.port p).ignored && (0x04#8).getLsbD i ||
        decide (s.mode = .night) && (0x02#8).getLsbD i || (s.port p).attention && (0x01#8).getLsbD i) := by
  simp only [State.statusByte, BitVec.getLsbD_or, getLsbD_statusField, isReady_eq]

theorem statusByte_events (s : State) (p : Port) : (s.statusByte p).getLsbD 4 = !(s.port p).events.isEmpty := by
  rw [getLsbD_statusByte]; simp

theorem statusByte_attention (s : State) (p : Port) : (s.statusByte p).getLsbD 0 = (s.port p).attention := by
  rw [getLsbD_statusByte]; simp

/-- The attention line of a part that runs is high while an event waits and attention is enabled (R183). -/
theorem attentionLine_running {s : State} (p : Port) (run : s.running = true) :
    s.attentionLine p = ((s.statusByte p).getLsbD 4 && (s.statusByte p).getLsbD 0) := by
  rw [statusByte_events, statusByte_attention, State.attentionLine, run, Bool.true_and]

/-! ### The rows, and the answer of a command of either role -/

theorem exec_identify (p : Port) (s : State) :
    exec (.identify p) s = .next (runCommand 0x01#8 identify p s) := rfl

theorem exec_portStatus (p : Port) (s : State) :
    exec (.portStatus p) s = .next (runCommand 0x04#8 portStatus p s) := rfl

/-- A command of either role whose rule answers OK leaves its result in the port of the state that the rule leaves. -/
theorem runCommand_done {s t : State} {p : Port} {code : Byte} {params bytes : List Byte} {cmd : Command}
    (h : Executing s p code params) (either : staffOnly code = false) (answer : cmd p params s = done bytes t) :
    runCommand code cmd p s = t.withResult p (0x00#8 :: bytes) := by
  rw [runCommand_eq cmd h, answerOf_allowed cmd (.inl either), answer, deliver_done]

/-! ### Events at a full queue -/

@[simp] theorem post_port (p : Port) (e : Event) (s : State) : (post p e s).port p = (s.port p).offer e := by
  simp [post]

/-- An event offered to a full queue is dropped and counted (R182). -/
theorem offer_full {q : PortState} (e : Event) (full : 8 ≤ q.events.length) :
    q.offer e = { q with lost := min 255 (q.lost + 1) } :=
  if_neg (Nat.not_lt.mpr full)

/-- At a full queue whose lost count is clear, an event dropped counts as the first (R182, R185). -/
theorem lost_post_of_cleared {s : State} {p : Port} (e : Event) (full : 8 ≤ (s.port p).events.length)
    (cleared : (s.port p).lost = 0) : ((post p e s).port p).lost = 1 := by
  rw [post_port, offer_full e full, cleared]
  rfl

/-- Settles O12: the status byte by its masks, the two rows by their answers (the permission check lets either role pass), and the
count after PORT STATUS from the queue it leaves and the lost count it clears. -/
theorem statusByteAndPortReports : Obligations.StatusByteAndPortReports := by
  unfold Obligations.StatusByteAndPortReports
  refine ⟨fun p s => ⟨?ready, ?result, ?executing, statusByte_events s p, ?search, ?ignored, ?night, statusByte_attention s p,
    attentionLine_running p⟩, fun p s h => ?identify, fun p s h => ⟨?answer, fun bounded => bounded.events p, fun e full => ?lost⟩⟩
  case ready => rw [getLsbD_statusByte]; simp
  case result => rw [getLsbD_statusByte]; simp
  case executing => rw [getLsbD_statusByte]; simp
  case search => rw [getLsbD_statusByte]; simp
  case ignored => rw [getLsbD_statusByte]; simp
  case night => rw [getLsbD_statusByte]; simp
  case identify =>
    rw [exec_identify, runCommand_report h rfl rfl]
    rfl
  case answer =>
    rw [exec_portStatus, runCommand_done h rfl rfl]
    rfl
  case lost =>
    exact lost_post_of_cleared e (by simpa [State.withResult] using full) (by simp [State.withResult])

end Sys2Proof.Machine
end

section
/-! PROOF. What an event keeps: the invariants of Safety.lean as preorders between the state before and the state after, with one
lemma per part of the state that an event may change. O57 to O60, O2 and O56 are assembled from these. -/

namespace Sys2Proof.Machine

/-! ### The invariants, by the part of the state they speak of -/

/-- Canonical, numbered and sound (R24, R31, R32, R45, R55, R70, R89). -/
structure Collections.Good (c : Collections) : Prop where
  canonical : c.Canonical
  numbered : c.Numbered
  sound : c.Sound

/-- The record memory, the step that a complete commit area holds, and the clock, as every step keeps them. -/
structure State.Good (s : State) : Prop where
  rm : s.rm.Good
  commit : ∀ image, s.commit = .complete image → image.Good
  clock : s.clock.Legal

/-- What holds of the slots in either mode (R99, R131). -/
structure State.Desk (s : State) : Prop where
  owned : s.Owned
  waits : s.WaitsMatch

/-- The high-water arming after an event that may add records (R38): disarmed exactly when records were added and 3,584 or more stand. -/
def ArmedFollows (s t : State) : Prop :=
  t.armed = (s.armed && !(decide (s.rm.journal.length < t.rm.journal.length) && decide (3584 ≤ t.rm.journal.length)))

/-- The records stand in their place, with their fields, and new ones may stand behind them (R30, R31). -/
def Grows (s t : State) : Prop :=
  ∃ new, t.rm.journal.map Record.content = s.rm.journal.map Record.content ++ new ∧ ∀ r ∈ new, r.sent = false

/-- The invariants that do not speak of slots or settings. -/
structure Core (s t : State) : Prop where
  pending : t.pending = s.pending
  clock : s.clock.Legal → t.clock.Legal
  random : s.link.random ≠ 0 → t.link.random ≠ 0
  queues : s.Bounded ∧ s.ResultsMatch → t.Bounded ∧ t.ResultsMatch
  sent : s.SentFirst → t.SentFirst
  records : s.Good → t.Good

/-- What every command keeps. -/
structure Kept (s t : State) : Prop extends Core s t where
  desk : s.Desk → t.Desk
  night : s.NightClosed → t.NightClosed
  settings : SettingsInRange s.config → SettingsInRange t.config

/-- An event that writes no record-memory step, with the slots left out. -/
structure QuietBut (s t : State) : Prop extends Core s t where
  content : t.rm.content = s.rm.content
  armed : t.armed = s.armed
  pfail : t.pfail = s.pfail
  config : t.config = s.config

/-- An event that writes no record-memory step and no setting. -/
structure Quiet (s t : State) : Prop extends QuietBut s t where
  desk : s.Desk → t.Desk
  night : s.NightClosed → t.NightClosed

/-- A part of a record-memory step, before its end tells JOURNAL-HIGH. -/
structure Writes (s t : State) : Prop extends Core s t where
  desk : s.Desk → t.Desk
  night : s.NightClosed → t.NightClosed
  grows : Grows s t
  armed : t.armed = s.armed
  pfail : t.pfail = s.pfail
  config : t.config = s.config

/-- A whole event, but for a confirmation, a start and the fall of PFAIL. -/
structure Whole (s t : State) : Prop extends Kept s t where
  owners : ∀ st, (s.slot st).state ≠ .idle → t.owner st = s.owner st
  grows : Grows s t
  armed : ArmedFollows s t
  pfail : t.pfail = s.pfail
  frozen : s.pfail = true → t.rm.content = s.rm.content

theorem Core.refl (s : State) : Core s s := ⟨rfl, id, id, id, id, id⟩

theorem Core.trans {s t u : State} (h : Core s t) (k : Core t u) : Core s u :=
  ⟨k.pending.trans h.pending, k.clock ∘ h.clock, k.random ∘ h.random, k.queues ∘ h.queues, k.sent ∘ h.sent,
    k.records ∘ h.records⟩

theorem Kept.trans {s t u : State} (h : Kept s t) (k : Kept t u) : Kept s u :=
  ⟨h.toCore.trans k.toCore, k.desk ∘ h.desk, k.night ∘ h.night, k.settings ∘ h.settings⟩

theorem QuietBut.trans {s t u : State} (h : QuietBut s t) (k : QuietBut t u) : QuietBut s u :=
  ⟨h.toCore.trans k.toCore, k.content.trans h.content, k.armed.trans h.armed, k.pfail.trans h.pfail, k.config.trans h.config⟩

theorem Quiet.refl (s : State) : Quiet s s := ⟨⟨.refl s, rfl, rfl, rfl, rfl⟩, id, id⟩

theorem Quiet.trans {s t u : State} (h : Quiet s t) (k : Quiet t u) : Quiet s u :=
  ⟨h.toQuietBut.trans k.toQuietBut, k.desk ∘ h.desk, k.night ∘ h.night⟩

theorem Quiet.ite {s t u : State} {p : Prop} [Decidable p] (h : p → Quiet s t) (k : ¬ p → Quiet s u) :
    Quiet s (if p then t else u) := by
  split
  · exact h ‹_›
  · exact k ‹_›

theorem Grows.of_content {s t : State} (h : t.rm.content = s.rm.content) : Grows s t := by
  have j : t.rm.journal.map Record.content = s.rm.journal.map Record.content := congrArg Collections.journal h
  exact ⟨[], by simp [j], by simp⟩

theorem Grows.trans {s t u : State} (h : Grows s t) (k : Grows t u) : Grows s u := by
  obtain ⟨new, e, unsent⟩ := h
  obtain ⟨new', e', unsent'⟩ := k
  refine ⟨new ++ new', by rw [e', e, List.append_assoc], fun r hr => ?_⟩
  rcases List.mem_append.mp hr with hr | hr
  · exact unsent r hr
  · exact unsent' r hr

theorem Grows.length_le {s t : State} (h : Grows s t) : s.rm.journal.length ≤ t.rm.journal.length := by
  obtain ⟨new, e, _⟩ := h
  have := congrArg List.length e
  simp only [List.length_map, List.length_append] at this
  omega

theorem length_of_content {c d : Collections} (h : d.content = c.content) : d.journal.length = c.journal.length := by
  simpa [Collections.content] using congrArg (fun x => x.journal.length) h

theorem Writes.refl (s : State) : Writes s s := ⟨.refl s, id, id, .of_content rfl, rfl, rfl, rfl⟩

theorem Writes.trans {s t u : State} (h : Writes s t) (k : Writes t u) : Writes s u :=
  ⟨h.toCore.trans k.toCore, k.desk ∘ h.desk, k.night ∘ h.night, h.grows.trans k.grows, k.armed.trans h.armed,
    k.pfail.trans h.pfail, k.config.trans h.config⟩

theorem Quiet.writes {s t : State} (h : Quiet s t) : Writes s t :=
  ⟨h.toCore, h.desk, h.night, .of_content h.content, h.armed, h.pfail, h.config⟩

theorem ArmedFollows.of_length {s t : State} (h : t.rm.journal.length = s.rm.journal.length) (a : t.armed = s.armed) :
    ArmedFollows s t := by
  simp [ArmedFollows, h, a]

theorem ArmedFollows.trans {s t u : State} (hs : s.rm.journal.length ≤ t.rm.journal.length)
    (ht : t.rm.journal.length ≤ u.rm.journal.length) (h : ArmedFollows s t) (k : ArmedFollows t u) : ArmedFollows s u := by
  unfold ArmedFollows at *
  rw [k, h, Bool.and_assoc]
  congr 1
  rw [Bool.eq_iff_iff]
  simp only [Bool.and_eq_true, Bool.not_eq_true', Bool.and_eq_false_iff, decide_eq_false_iff_not]
  omega

theorem owner_of_config {s t : State} (h : t.config = s.config) (st : Station) : t.owner st = s.owner st := by
  simp [State.owner, State.stationConfig, h]

/-- A part of a step that leaves the number of records as it was, while PFAIL is low, is a whole event. -/
theorem Writes.whole {s t : State} (h : Writes s t) (power : s.pfail = false)
    (same : t.rm.journal.length = s.rm.journal.length) : Whole s t :=
  ⟨⟨h.toCore, h.desk, h.night, fun r => h.config ▸ r⟩, fun st _ => owner_of_config h.config st, h.grows,
    .of_length same h.armed, h.pfail, fun p => by rw [power] at p; cases p⟩

theorem Quiet.whole {s t : State} (h : Quiet s t) : Whole s t :=
  ⟨⟨h.toCore, h.desk, h.night, fun r => h.config ▸ r⟩, fun st _ => owner_of_config h.config st, .of_content h.content,
    .of_length (length_of_content h.content) h.armed, h.pfail, fun _ => h.content⟩

theorem Whole.refl (s : State) : Whole s s := (Quiet.refl s).whole

/-- A whole event followed by one that writes no setting. -/
theorem Whole.quiet {s t u : State} (h : Whole s t) (k : Quiet t u) : Whole s u :=
  ⟨h.toKept.trans k.whole.toKept, fun st o => (owner_of_config k.config st).trans (h.owners st o),
    h.grows.trans (.of_content k.content),
    h.armed.trans h.grows.length_le (Grows.of_content k.content).length_le (.of_length (length_of_content k.content) k.armed),
    k.pfail.trans h.pfail, fun p => k.content.trans (h.frozen p)⟩

/-- An event that writes no setting, followed by a whole one; the slots that are not IDLE are the same to both. -/
theorem Quiet.thenWhole {s t u : State} (h : Quiet s t) (k : Whole t u)
    (idle : ∀ st, (s.slot st).state ≠ .idle → (t.slot st).state ≠ .idle) : Whole s u :=
  ⟨h.whole.toKept.trans k.toKept, fun st o => (k.owners st (idle st o)).trans (owner_of_config h.config st),
    (Grows.of_content h.content).trans k.grows,
    (ArmedFollows.of_length (length_of_content h.content) h.armed).trans (Grows.of_content h.content).length_le k.grows.length_le
      k.armed, k.pfail.trans h.pfail, fun p => (k.frozen (h.pfail.trans p)).trans h.content⟩

/-- An operation that is quiet at every element is quiet over a list. -/
theorem quiet_foldl {α : Type} (f : State → α → State) (h : ∀ s x, Quiet s (f s x)) (l : List α) (s : State) :
    Quiet s (l.foldl f s) :=
  foldl_keeps (P := Quiet) .refl (fun _ _ _ => .trans) f h l s

/-! ### Collections that agree but for the upload state of the records -/

theorem isTrackedOf_content (b : Code) (r : Record) : r.content.isTrackedOf b = r.isTrackedOf b := rfl

theorem foldBalance_append (b : Code) (l : List Record) (r : Record) : foldBalance b (l ++ [r]) =
    if r.isTrackedOf b then applyMoney r.kind (r.amount.getD 0) (foldBalance b l) else foldBalance b l := by
  unfold foldBalance
  rw [List.filter_append, List.foldl_append]
  by_cases h : r.isTrackedOf b = true <;> simp [h]

theorem foldBalance_content (b : Code) (l : List Record) : foldBalance b (l.map Record.content) = foldBalance b l := by
  induction l using List.reverseRecOn with
  | nil => rfl
  | append_singleton l r ih =>
    rw [List.map_append, List.map_singleton, foldBalance_append, foldBalance_append, ih, isTrackedOf_content]
    rfl

theorem exists_tracked_content (b : Code) (l : List Record) :
    (∃ r ∈ l.map Record.content, r.isTrackedOf b = true) ↔ ∃ r ∈ l, r.isTrackedOf b = true := by
  simp [isTrackedOf_content]

/-- The upload state of the records is no part of what the invariants of record memory say (R33). -/
theorem Collections.Good.of_content {c d : Collections} (h : d.content = c.content) (good : c.Good) : d.Good := by
  obtain ⟨journal, loans, blocks, flags, balances, closures, nextSeq, lastRun, lastBroadcast⟩ := c
  obtain ⟨journal', loans', blocks', flags', balances', closures', nextSeq', lastRun', lastBroadcast'⟩ := d
  simp only [Collections.content, Collections.mk.injEq] at h
  obtain ⟨hj, rfl, rfl, rfl, rfl, rfl, rfl, rfl, rfl⟩ := h
  obtain ⟨can, num, snd⟩ := good
  have len : journal'.length = journal.length := by simpa using congrArg List.length hj
  refine ⟨⟨len.trans_le can.journal, can.loans, can.blocks, can.flags, can.balances, can.closures⟩, ⟨num.1, fun i r hr => ?_⟩,
    ⟨fun b => ?_, snd.loans, snd.flags⟩⟩
  · have e := congrArg (·[i]?) hj
    simp only [List.getElem?_map, hr, Option.map_some] at e
    obtain ⟨r', hr', er⟩ := Option.map_eq_some_iff.mp e.symm
    have seq : r'.seq = r.seq := by simpa [Record.content] using congrArg Record.seq er
    simpa [len, seq] using num.2 i r' hr'
  · have tracked : (∃ r ∈ journal', r.isTrackedOf b = true) ↔ ∃ r ∈ journal, r.isTrackedOf b = true := by
      rw [← exists_tracked_content, hj, exists_tracked_content]
    have fold : foldBalance b journal' = foldBalance b journal := by rw [← foldBalance_content, hj, foldBalance_content]
    simpa only [tracked, fold] using snd.balances b

/-! ### One part of the state changed -/

/-- What a change of a port keeps of its queue and its result. -/
structure PortKept (q x : PortState) : Prop where
  events : q.events.length ≤ 8 ∧ q.lost ≤ 255 → x.events.length ≤ 8 ∧ x.lost ≤ 255
  result : (q.phase = .result ↔ q.result ≠ []) → (x.phase = .result ↔ x.result ≠ [])

theorem PortKept.refl (q : PortState) : PortKept q q := ⟨id, id⟩

theorem quiet_ports {s : State} (v : PerPort PortState) (h : ∀ p, PortKept (s.port p) (v.get p)) :
    Quiet s { s with ports := v } where
  pending := rfl
  clock := id
  random := id
  queues := fun ⟨b, r⟩ => ⟨⟨fun p => (h p).events (b.events p), b.scans, b.lines, b.slips⟩, fun p => (h p).result (r p)⟩
  sent := id
  records g := ⟨g.rm, g.commit, g.clock⟩
  content := rfl
  armed := rfl
  pfail := rfl
  config := rfl
  desk d := ⟨d.owned, d.waits⟩
  night := id

theorem quiet_putPort {s : State} {p : Port} {x : PortState} (h : PortKept (s.port p) x) : Quiet s (s.putPort p x) :=
  quiet_ports _ fun q => by
    by_cases hq : q = p
    · subst hq; simpa using h
    · rw [PerPort.get_set_other _ _ hq]; exact .refl _

theorem portKept_offer (q : PortState) (e : Event) : PortKept q (q.offer e) := by
  unfold PortState.offer
  split
  · rename_i room
    exact ⟨fun h => ⟨by rw [List.length_append]; exact room, h.2⟩, id⟩
  · exact ⟨fun h => ⟨h.1, Nat.min_le_left ..⟩, id⟩

theorem quiet_post (p : Port) (e : Event) (s : State) : Quiet s (post p e s) := quiet_putPort (portKept_offer _ e)

theorem quiet_postIfStaff (p : Port) (e : Event) (s : State) : Quiet s (postIfStaff p e s) :=
  .ite (fun _ => quiet_post p e s) fun _ => .refl s

theorem quiet_postStaff (e : Event) (s : State) : Quiet s (postStaff e s) :=
  (quiet_postIfStaff .A e s).trans (quiet_postIfStaff .B e _)

theorem quiet_postAll (e : Event) (s : State) : Quiet s (postAll e s) := (quiet_post .A e s).trans (quiet_post .B e _)

theorem quiet_postOwner (st : Station) (e : Event) (s : State) : Quiet s (postOwner st e s) := by
  unfold postOwner
  split
  · exact quiet_post _ e s
  · exact .refl s

theorem quiet_postOwnerOrStaff (st : Station) (e : Event) (s : State) : Quiet s (postOwnerOrStaff st e s) := by
  unfold postOwnerOrStaff
  split
  · exact quiet_post _ e s
  · exact quiet_postStaff e s

theorem quiet_reportWaiting (st : Station) (s : State) : Quiet s (reportWaiting st s) :=
  quiet_foldl _ (fun t _ => quiet_postOwner st _ t) _ s

theorem quiet_moveSearches (t : Table) (f : Nat → Nat) (s : State) : Quiet s (moveSearches t f s) :=
  quiet_ports _ fun p => by cases p <;> exact ⟨id, id⟩

theorem quiet_putStation {s : State} {st : Station} {x : WandStation}
    (scans : (s.station st).scans.length ≤ 2 → x.scans.length ≤ 2)
    (decoder : s.mode = .night → (s.station st).decoder = .disabled → x.decoder = .disabled) :
    Quiet s (s.putStation st x) where
  pending := rfl
  clock := id
  random := id
  queues := fun ⟨b, r⟩ => by
    refine ⟨⟨b.events, fun st' => ?_, b.lines, b.slips⟩, r⟩
    by_cases h : st' = st
    · subst h; simpa using scans (b.scans st')
    · rw [State.station_putStation_other _ _ h]; exact b.scans st'
  sent := id
  records g := ⟨g.rm, g.commit, g.clock⟩
  content := rfl
  armed := rfl
  pfail := rfl
  config := rfl
  desk d := ⟨d.owned, d.waits⟩
  night closed dark st' := by
    by_cases h : st' = st
    · subst h
      simpa using ⟨decoder dark (closed dark st').1, (closed dark st').2⟩
    · rw [State.station_putStation_other _ _ h]; exact closed dark st'

theorem quiet_tone (st : Station) (x : Pattern) (s : State) : Quiet s (tone st x s) := quiet_putStation id fun _ => id

theorem quietBut_putSlot {s : State} {st : Station} {x : Slot} (lines : (s.slot st).draft.length ≤ 32 → x.draft.length ≤ 32) :
    QuietBut s (s.putSlot st x) where
  pending := rfl
  clock := id
  random := id
  queues := fun ⟨b, r⟩ => by
    refine ⟨⟨b.events, b.scans, fun st' => ?_, b.slips⟩, r⟩
    by_cases h : st' = st
    · subst h; simpa using lines (b.lines st')
    · rw [State.slot_putSlot_other _ _ h]; exact b.lines st'
  sent := id
  records g := ⟨g.rm, g.commit, g.clock⟩
  content := rfl
  armed := rfl
  pfail := rfl
  config := rfl

/-- A slot written keeps the rules of the desk, when CLOSING neither begins nor ends and an IDLE slot leaves IDLE only with an owner. -/
theorem desk_putSlot {s : State} {st : Station} {x : Slot} (d : s.Desk)
    (owned : x.state ≠ .idle → (s.slot st).state ≠ .idle ∨ s.owner st ≠ none)
    (closing : x.state = .closing ↔ (s.slot st).state = .closing) : (s.putSlot st x).Desk := by
  refine ⟨fun st' busy => ?_, d.waits.1, fun st' => ?_⟩
  · by_cases h : st' = st
    · subst h
      rcases owned (by simpa using busy) with o | o
      · exact d.owned st' o
      · exact o
    · rw [State.slot_putSlot_other _ _ h] at busy; exact d.owned st' busy
  · by_cases h : st' = st
    · subst h; simpa [closing] using d.waits.2 st'
    · rw [State.slot_putSlot_other _ _ h]; exact d.waits.2 st'

theorem night_putSlot {s : State} {st : Station} {x : Slot} (n : s.NightClosed)
    (closed : s.mode = .night → (s.slot st).reopen = none ∧ (s.slot st).state.isOpen = false →
      x.reopen = none ∧ x.state.isOpen = false) : (s.putSlot st x).NightClosed := by
  intro dark st'
  by_cases h : st' = st
  · subst h
    simpa using ⟨(n dark st').1, closed dark (n dark st').2⟩
  · rw [State.slot_putSlot_other _ _ h]; exact n dark st'

/-- A slot changed within the same kind of state: what a change of the patron, the lines or the timer is. -/
theorem quiet_putSlot {s : State} {st : Station} {x : Slot} (lines : (s.slot st).draft.length ≤ 32 → x.draft.length ≤ 32)
    (owned : x.state ≠ .idle → (s.slot st).state ≠ .idle ∨ s.owner st ≠ none)
    (closing : x.state = .closing ↔ (s.slot st).state = .closing)
    (closed : s.mode = .night → (s.slot st).reopen = none ∧ (s.slot st).state.isOpen = false →
      x.reopen = none ∧ x.state.isOpen = false) : Quiet s (s.putSlot st x) :=
  ⟨quietBut_putSlot lines, fun d => desk_putSlot d owned closing, fun n => night_putSlot n closed⟩

theorem quiet_onSlip {f : SlipUnit → SlipUnit} {s : State} (queue : s.slip.queue.length ≤ 8 → (f s.slip).queue.length ≤ 8)
    (waiting : (f s.slip).waiting = s.slip.waiting) : Quiet s (onSlip f s) where
  pending := rfl
  clock := id
  random := id
  queues := fun ⟨b, r⟩ => ⟨⟨b.events, b.scans, b.lines, queue b.slips⟩, r⟩
  sent := id
  records g := ⟨g.rm, g.commit, g.clock⟩
  content := rfl
  armed := rfl
  pfail := rfl
  config := rfl
  desk d := ⟨d.owned, by unfold State.WaitsMatch; rw [onSlip_slip, waiting]; exact d.waits⟩
  night := id

/-- The states of the link in which SENT records may stand (R33). -/
def RunState.holdsSent (r : RunState) : Prop := r = .sendData ∨ r = .awaitAck

theorem sentFirst_onLink {f : Link → Link} {s : State} (h : s.SentFirst)
    (run : s.link.run.holdsSent → (f s.link).run.holdsSent)
    (jam : (f s.link).jam = some .reply → (f s.link).run = .sendReply) : (onLink f s).SentFirst := by
  obtain ⟨⟨n, le, oldest, out⟩, _⟩ := h
  exact ⟨⟨n, le, oldest, run ∘ out⟩, jam⟩

/-- Where no record is SENT the link may be in any state. -/
theorem sentFirst_of_unsent {s : State} (unsent : ∀ r ∈ s.rm.journal, r.sent = false)
    (jam : s.link.jam = some .reply → s.link.run = .sendReply) : s.SentFirst := by
  refine ⟨⟨0, by omega, fun i r hr => ?_, fun h => absurd h (by omega)⟩, jam⟩
  simp [unsent r (List.mem_of_getElem? hr)]

theorem quiet_onLink {f : Link → Link} {s : State} (random : (f s.link).random = s.link.random)
    (sent : s.SentFirst → (onLink f s).SentFirst) : Quiet s (onLink f s) where
  pending := rfl
  clock := id
  random h := by rwa [onLink_link, random]
  queues := fun ⟨b, r⟩ => ⟨⟨b.events, b.scans, b.lines, b.slips⟩, r⟩
  sent := sent
  records g := ⟨g.rm, g.commit, g.clock⟩
  content := rfl
  armed := rfl
  pfail := rfl
  config := rfl
  desk d := ⟨d.owned, d.waits⟩
  night := id

/-- A change of the link that leaves its run state and its jam. -/
theorem quiet_onLink_same {f : Link → Link} {s : State} (random : (f s.link).random = s.link.random)
    (run : (f s.link).run = s.link.run) (jam : (f s.link).jam = s.link.jam) : Quiet s (onLink f s) :=
  quiet_onLink random fun h => sentFirst_onLink h (by rw [run]; exact id) (by rw [jam, run]; exact h.2)

/-- The fields of which no invariant speaks. -/
theorem quiet_flags (s : State) (running mainPower resetHeld marker purgeWaits modeWindow modeHold : Bool) (nextSlip : Nat)
    (checkWord : Word16) : Quiet s { s with
      running := running, mainPower := mainPower, resetHeld := resetHeld, marker := marker, purgeWaits := purgeWaits,
      modeWindow := modeWindow, modeHold := modeHold, nextSlip := nextSlip, checkWord := checkWord } where
  pending := rfl
  clock := id
  random := id
  queues := fun ⟨b, r⟩ => ⟨⟨b.events, b.scans, b.lines, b.slips⟩, r⟩
  sent := id
  records g := ⟨g.rm, g.commit, g.clock⟩
  content := rfl
  armed := rfl
  pfail := rfl
  config := rfl
  desk d := ⟨d.owned, d.waits⟩
  night := id

theorem quiet_clock {s : State} {c : Clock} (legal : s.clock.Legal → c.Legal) : Quiet s { s with clock := c } where
  pending := rfl
  clock := legal
  random := id
  queues := fun ⟨b, r⟩ => ⟨⟨b.events, b.scans, b.lines, b.slips⟩, r⟩
  sent := id
  records g := ⟨g.rm, g.commit, legal g.clock⟩
  content := rfl
  armed := rfl
  pfail := rfl
  config := rfl
  desk d := ⟨d.owned, d.waits⟩
  night := id

/-- Settings written with their check word, the owners of busy stations kept. -/
theorem whole_writeSettings {c : Configuration} {s : State} (range : SettingsInRange s.config → SettingsInRange c)
    (owners : ∀ st, (s.slot st).state ≠ .idle → (c.stations.get st).owner = s.owner st) : Whole s (writeSettings c s) where
  pending := rfl
  clock := id
  random := id
  queues := fun ⟨b, r⟩ => ⟨⟨b.events, b.scans, b.lines, b.slips⟩, r⟩
  sent := id
  records g := ⟨g.rm, g.commit, g.clock⟩
  desk d := ⟨fun st busy => (owners st busy).trans_ne (d.owned st busy), d.waits⟩
  night := id
  settings := range
  owners := owners
  grows := .of_content rfl
  armed := .of_length rfl rfl
  pfail := rfl
  frozen _ := rfl

/-! ### The collections changed -/

/-- Collections changed but for the journal. -/
theorem writes_rm {s : State} {c : Collections} (journal : c.journal = s.rm.journal) (good : s.Good → c.Good) :
    Writes s { s with rm := c } where
  pending := rfl
  clock := id
  random := id
  queues := fun ⟨b, r⟩ => ⟨⟨b.events, b.scans, b.lines, b.slips⟩, r⟩
  sent h := by unfold State.SentFirst; rw [journal]; exact h
  records g := ⟨good g, g.commit, g.clock⟩
  desk d := ⟨d.owned, d.waits⟩
  night := id
  grows := ⟨[], by simp [journal], by simp⟩
  armed := rfl
  pfail := rfl
  config := rfl

/-- Collections changed but for the journal, with the searches in the table moved (R41). -/
theorem writes_moving {s : State} {c : Collections} (t : Table) (f : Nat → Nat) (journal : c.journal = s.rm.journal)
    (good : s.Good → c.Good) : Writes s (moveSearches t f { s with rm := c }) :=
  (writes_rm journal good).trans (quiet_moveSearches ..).writes

/-- The record that a writer adds. -/
def Entry.record (e : Entry) (s : State) : Record :=
  { seq := s.rm.nextSeq, kind := e.kind, day := s.clock.day, minute := s.clock.minute, station := e.station,
    port := e.port, flags := e.flags, borrower := e.borrower, item := e.item, dueDay := e.dueDay,
    dueMinute := e.dueMinute, amount := e.amount, sent := false }

theorem writeRecord_eq (e : Entry) (s : State) : writeRecord e s =
    { s with rm := { s.rm with journal := s.rm.journal ++ [e.record s], nextSeq := (s.rm.nextSeq + 1) % 65536 } } := rfl

/-- One record more keeps the SENT ones the oldest. -/
theorem sentFirst_append {s : State} {r : Record} {c : Collections} (h : s.SentFirst) (journal : c.journal = s.rm.journal ++ [r])
    (unsent : r.sent = false) : State.SentFirst { s with rm := c } := by
  obtain ⟨⟨n, le, oldest, out⟩, jam⟩ := h
  refine ⟨⟨min n s.rm.journal.length, by omega, fun i r' hr => ?_, fun pos => out (by omega)⟩, jam⟩
  simp only [journal, List.getElem?_append] at hr
  split at hr
  · rename_i lt
    rw [oldest i r' hr]; omega
  · rename_i ge
    rcases Nat.eq_zero_or_pos (i - s.rm.journal.length) with z | z
    · simp only [z, List.getElem?_cons_zero, Option.some.injEq] at hr
      subst hr
      simp only [unsent, Bool.false_eq_true, false_iff]; omega
    · have : i - s.rm.journal.length = (i - s.rm.journal.length - 1) + 1 := by omega
      rw [this] at hr; simp at hr

/-- A record added to the collections, with whatever else is changed along with it. -/
theorem writes_append {s : State} {c : Collections} {r : Record} (journal : c.journal = s.rm.journal ++ [r])
    (unsent : r.sent = false) (good : s.Good → c.Good) : Writes s { s with rm := c } where
  pending := rfl
  clock := id
  random := id
  queues := fun ⟨b, q⟩ => ⟨⟨b.events, b.scans, b.lines, b.slips⟩, q⟩
  sent h := sentFirst_append h journal unsent
  records g := ⟨good g, g.commit, g.clock⟩
  desk d := ⟨d.owned, d.waits⟩
  night := id
  grows := ⟨[r.content], by simp [journal], by simp [Record.content]⟩
  armed := rfl
  pfail := rfl
  config := rfl

theorem numbered_append {c : Collections} (h : c.Numbered) (r : Record) (seq : r.seq = c.nextSeq) (rest : Collections)
    (journal : rest.journal = c.journal ++ [r]) (next : rest.nextSeq = (c.nextSeq + 1) % 65536) : rest.Numbered := by
  obtain ⟨lt, num⟩ := h
  refine ⟨by rw [next]; omega, fun i r' hr => ?_⟩
  simp only [journal, next, List.length_append, List.length_cons, List.length_nil, List.getElem?_append] at hr ⊢
  split at hr
  · rename_i hi
    have := num i r' hr
    omega
  · rename_i ge
    rcases Nat.eq_zero_or_pos (i - c.journal.length) with z | z
    · simp only [z, List.getElem?_cons_zero, Option.some.injEq] at hr
      subst hr
      rw [seq]; omega
    · have : i - c.journal.length = (i - c.journal.length - 1) + 1 := by omega
      rw [this] at hr; simp at hr

/-- Without a tracked record the fold is 0 (R89). -/
theorem foldBalance_untracked {b : Code} {l : List Record} (h : ¬ ∃ r ∈ l, r.isTrackedOf b = true) : foldBalance b l = 0 := by
  have : l.filter (Record.isTrackedOf b) = [] := List.filter_eq_nil_iff.mpr fun r hr ht => h ⟨r, hr, ht⟩
  simp [foldBalance, this]

theorem exists_tracked_append (b : Code) (l : List Record) (r : Record) :
    (∃ x ∈ l ++ [r], x.isTrackedOf b = true) ↔ (∃ x ∈ l, x.isTrackedOf b = true) ∨ r.isTrackedOf b = true := by
  simp only [List.mem_append, List.mem_singleton, or_and_right, exists_or, exists_eq_left]

/-- A record that no balance follows (R89). -/
theorem good_append {c : Collections} (h : c.Good) (room : c.journal.length < 4096) (r : Record) (seq : r.seq = c.nextSeq)
    (untracked : ∀ b, r.isTrackedOf b = false) :
    Collections.Good { c with journal := c.journal ++ [r], nextSeq := (c.nextSeq + 1) % 65536 } where
  canonical := ⟨by simpa using room, h.canonical.loans, h.canonical.blocks, h.canonical.flags, h.canonical.balances,
    h.canonical.closures⟩
  numbered := numbered_append h.numbered r seq _ rfl rfl
  sound := ⟨fun b => by
    simp only [exists_tracked_append, foldBalance_append, untracked, Bool.false_eq_true, or_false, if_false]
    exact h.sound.balances b, h.sound.loans, h.sound.flags⟩

theorem writes_record {e : Entry} {s : State} (room : s.rm.journal.length < 4096) (fine : e.kind ≠ .fine)
    (payment : e.kind ≠ .payment) : Writes s (writeRecord e s) :=
  writes_append (r := e.record s) rfl rfl fun g => good_append g.rm room _ rfl fun b => by
    simp [Record.isTrackedOf, Record.isMoneyOf, fine, payment]

theorem good_loans {c : Collections} (h : c.Good) {l : List Loan} (rising : Rising Loan.key l) (room : l.length ≤ 8192)
    (sound : ∀ x ∈ l, x.outDay ≤ 65535 ∧ x.outMinute ≤ 1439 ∧
      x.outDay * 1440 + x.outMinute < x.dueDay * 1440 + x.dueMinute.getD 1439) : Collections.Good { c with loans := l } :=
  ⟨⟨h.canonical.journal, ⟨rising, room⟩, h.canonical.blocks, h.canonical.flags, h.canonical.balances, h.canonical.closures⟩,
    h.numbered, ⟨h.sound.balances, sound, h.sound.flags⟩⟩

theorem good_blocks {c : Collections} (h : c.Good) {l : List Block} (rising : Rising Block.key l) (room : l.length ≤ 1024) :
    Collections.Good { c with blocks := l } :=
  ⟨⟨h.canonical.journal, h.canonical.loans, ⟨rising, room⟩, h.canonical.flags, h.canonical.balances, h.canonical.closures⟩,
    h.numbered, h.sound.balances, h.sound.loans, h.sound.flags⟩

theorem good_flags {c : Collections} (h : c.Good) {l : List FlagEntry} (rising : Rising FlagEntry.key l) (room : l.length ≤ 512)
    (sound : ∀ f ∈ l, f.reserver.isSome = true ↔ f.flag = .reserved) : Collections.Good { c with flags := l } :=
  ⟨⟨h.canonical.journal, h.canonical.loans, h.canonical.blocks, ⟨rising, room⟩, h.canonical.balances, h.canonical.closures⟩,
    h.numbered, h.sound.balances, h.sound.loans, sound⟩

theorem good_closures {c : Collections} (h : c.Good) {l : List Nat} (rising : Rising id l) (room : l.length ≤ 64) :
    Collections.Good { c with closures := l } :=
  ⟨⟨h.canonical.journal, h.canonical.loans, h.canonical.blocks, h.canonical.flags, h.canonical.balances, ⟨rising, room⟩⟩,
    h.numbered, h.sound.balances, h.sound.loans, h.sound.flags⟩

/-- The numbers of the last updates are no part of the invariants. -/
theorem good_last {c : Collections} (h : c.Good) (run : Option (Nat × Nat)) (broadcast : Option Nat) :
    Collections.Good { c with lastRun := run, lastBroadcast := broadcast } :=
  ⟨⟨h.canonical.journal, h.canonical.loans, h.canonical.blocks, h.canonical.flags, h.canonical.balances, h.canonical.closures⟩,
    h.numbered, h.sound.balances, h.sound.loans, h.sound.flags⟩

/-- An entry of an overwritten collection is the new one or one of the old. -/
theorem mem_replaceBy {α : Type} {key : α → Nat} {x y : α} {l : List α} (h : y ∈ replaceBy key x l) : y = x ∨ y ∈ l := by
  obtain ⟨z, hz, e⟩ := List.mem_map.mp h
  split at e
  · exact .inl e.symm
  · exact .inr (e ▸ hz)

/-- The dates of a loan (R24). -/
def Loan.Dated (l : Loan) : Prop := l.outDay ≤ 65535 ∧ l.outMinute ≤ 1439 ∧
  l.outDay * 1440 + l.outMinute < l.dueDay * 1440 + l.dueMinute.getD 1439

theorem writes_insertLoan {l : Loan} {s : State} (new : s.loanOf l.item = none) (room : s.rm.loans.length < 8192)
    (dated : s.Good → l.Dated) : Writes s (insertLoan l s) :=
  writes_moving _ _ rfl fun g => good_loans g.rm
    (insertBy_rising Loan.key g.rm.canonical.loans.1 ((lookupBy_none_iff _ _ _).mp new)) (by simpa using room) fun x hx => by
      rcases (mem_insertBy _ _ _ _).mp hx with rfl | hx
      · exact dated g
      · exact g.rm.sound.loans x hx

theorem writes_removeLoan (item : Code) (s : State) : Writes s (removeLoan item s) := by
  unfold removeLoan
  split
  · exact .refl s
  · exact writes_moving _ _ rfl fun g => good_loans g.rm (removeBy_rising _ _ g.rm.canonical.loans.1)
      ((length_removeBy ..).trans g.rm.canonical.loans.2) fun x hx =>
        g.rm.sound.loans x ((mem_removeBy _ _ _ _).mp hx).1

theorem writes_replaceLoan {l : Loan} {s : State} (dated : s.Good → l.Dated) : Writes s (replaceLoan l s) :=
  writes_rm rfl fun g => good_loans g.rm (replaceBy_rising _ _ g.rm.canonical.loans.1)
    (by simpa using g.rm.canonical.loans.2) fun x hx => by
      rcases mem_replaceBy hx with rfl | hx
      · exact dated g
      · exact g.rm.sound.loans x hx

theorem writes_putBlock {b : Block} {s : State} (room : s.blockOf b.borrower = none → s.rm.blocks.length < 1024) :
    Writes s (putBlock b s) := by
  unfold putBlock
  split
  · exact writes_rm rfl fun g => good_blocks g.rm (replaceBy_rising _ _ g.rm.canonical.blocks.1)
      (by simpa using g.rm.canonical.blocks.2)
  · rename_i new
    exact writes_moving _ _ rfl fun g => good_blocks g.rm
      (insertBy_rising _ g.rm.canonical.blocks.1 ((lookupBy_none_iff _ _ _).mp new)) (by simpa using room new)

theorem writes_removeBlockOf (b : Code) (s : State) : Writes s (removeBlockOf b s) := by
  unfold removeBlockOf
  split
  · exact .refl s
  · exact writes_moving _ _ rfl fun g => good_blocks g.rm (removeBy_rising _ _ g.rm.canonical.blocks.1)
      ((length_removeBy ..).trans g.rm.canonical.blocks.2)

theorem writes_putFlag {f : FlagEntry} {s : State} (room : s.flagOf f.item = none → s.rm.flags.length < 512)
    (reserver : f.reserver.isSome = true ↔ f.flag = .reserved) : Writes s (putFlag f s) := by
  unfold putFlag
  split
  · exact writes_rm rfl fun g => good_flags g.rm (replaceBy_rising _ _ g.rm.canonical.flags.1)
      (by simpa using g.rm.canonical.flags.2) fun x hx => by
        rcases mem_replaceBy hx with rfl | hx
        · exact reserver
        · exact g.rm.sound.flags x hx
  · rename_i new
    exact writes_moving _ _ rfl fun g => good_flags g.rm
      (insertBy_rising _ g.rm.canonical.flags.1 ((lookupBy_none_iff _ _ _).mp new)) (by simpa using room new) fun x hx => by
        rcases (mem_insertBy _ _ _ _).mp hx with rfl | hx
        · exact reserver
        · exact g.rm.sound.flags x hx

theorem writes_removeFlagOf (item : Code) (s : State) : Writes s (removeFlagOf item s) := by
  unfold removeFlagOf
  split
  · exact .refl s
  · exact writes_moving _ _ rfl fun g => good_flags g.rm (removeBy_rising _ _ g.rm.canonical.flags.1)
      ((length_removeBy ..).trans g.rm.canonical.flags.2) fun x hx =>
        g.rm.sound.flags x ((mem_removeBy _ _ _ _).mp hx).1

theorem writes_insertClosure {day : Nat} {s : State} (new : s.rm.closures.contains day = false)
    (room : s.rm.closures.length < 64) : Writes s (insertClosure day s) :=
  writes_rm rfl fun g => good_closures g.rm
    (insertBy_rising _ g.rm.canonical.closures.1 fun y hy e => by
      obtain rfl : y = day := e
      simp [hy] at new) (by simpa using room)

theorem writes_dropClosure (day : Nat) (s : State) : Writes s (dropClosure day s) :=
  writes_rm rfl fun g => good_closures g.rm (removeBy_rising _ _ g.rm.canonical.closures.1)
    ((length_removeBy ..).trans g.rm.canonical.closures.2)

theorem writes_purge (s : State) : Writes s (purge s) :=
  writes_rm rfl fun g => good_closures g.rm
    (by unfold Rising at *; exact g.rm.canonical.closures.1.sublist (List.filter_sublist.map _))
    ((List.length_filter_le ..).trans g.rm.canonical.closures.2)

/-! ### A FINE or PAYMENT with its balance (R89, R90) -/

theorem updateBalance_eq (kind : RecordKind) (b : Code) (cents : Nat) (s : State) :
    updateBalance kind b cents s = { s with rm := { s.rm with balances := (updateBalance kind b cents s).rm.balances } } := by
  unfold updateBalance
  split
  · rfl
  · split <;> rfl

/-- The entry of a borrower in a list of which each entry of that borrower is changed. -/
theorem find_map_borrower (b b' : Code) (f : Balance → Balance) (keep : ∀ x, (f x).borrower = x.borrower) (l : List Balance) :
    (l.map (fun x => if x.borrower = b then f x else x)).find? (fun x => x.borrower == b') =
      (l.find? (fun x => x.borrower == b')).map (fun x => if b' = b then f x else x) := by
  induction l with
  | nil => rfl
  | cons x xs ih =>
    have same : (if x.borrower = b then f x else x).borrower = x.borrower := by split <;> simp [keep]
    by_cases h : x.borrower = b'
    · subst h
      simp only [List.map_cons, List.find?_cons, same, beq_self_eq_true, Option.map_some]
    · have hb : (x.borrower == b') = false := by simpa using h
      simp only [List.map_cons, List.find?_cons, same, hb, ih]

theorem find_balance_borrower {l : List Balance} {b : Code} {x : Balance} (h : l.find? (fun y => y.borrower == b) = some x) :
    x.borrower = b := by simpa using List.find?_some h

/-- The BALANCE TABLE after a FINE or PAYMENT agrees with the journal that holds it (R89, R90). -/
theorem balances_after_money {s : State} (sound : s.rm.Sound) {kind : RecordKind} (money : kind = .fine ∨ kind = .payment)
    (b : Code) (cents : Nat) (r : Record) (hk : r.kind = kind) (hb : r.borrower = some b) (ha : r.amount = some cents)
    (hu : r.flags.untracked = !s.tracks b) (b' : Code) :
    (updateBalance kind b cents s).rm.balances.find? (fun x => x.borrower == b') =
      if ∃ x ∈ s.rm.journal ++ [r], x.isTrackedOf b' = true then some ⟨b', foldBalance b' (s.rm.journal ++ [r])⟩ else none := by
  have isMoney : r.isMoneyOf b' = decide (b = b') := by
    rw [Bool.eq_iff_iff]
    rcases money with rfl | rfl <;> simp [Record.isMoneyOf, hk, hb]
  have tracked : r.isTrackedOf b' = (decide (b = b') && s.tracks b) := by simp [Record.isTrackedOf, isMoney, hu]
  simp only [exists_tracked_append, foldBalance_append, tracked, hk, ha]
  have before := sound.balances b'
  by_cases same : b = b'
  · subst same
    unfold updateBalance
    cases entry : s.balanceEntry b with
    | some x =>
      have find : s.rm.balances.find? (fun y => y.borrower == b) = some x := entry
      have track : s.tracks b = true := by simp [State.tracks, entry]
      rw [find] at before
      have there : ∃ y ∈ s.rm.journal, y.isTrackedOf b = true := by
        by_contra none; rw [if_neg none] at before; cases before
      rw [if_pos there, Option.some.injEq] at before
      subst before
      simp only [find_map_borrower b b (fun x => { x with amount := applyMoney kind cents x.amount }) (fun _ => rfl), find,
        Option.map_some, if_true, track, decide_true, Bool.and_self, or_true, Option.getD_some]
    | none =>
      have find : s.rm.balances.find? (fun y => y.borrower == b) = none := entry
      have never : ¬ ∃ y ∈ s.rm.journal, y.isTrackedOf b = true := by
        intro there; rw [find, if_pos there] at before; cases before
      by_cases room : s.rm.balances.length < Config.balancesMax
      · have track : s.tracks b = true := by simp [State.tracks, room]
        simp [room, track, find, foldBalance_untracked never]
      · have track : s.tracks b = false := by simp [State.tracks, entry, room]
        simp [room, track, find, never]
  · have hfind : (updateBalance kind b cents s).rm.balances.find? (fun x => x.borrower == b') =
        s.rm.balances.find? (fun x => x.borrower == b') := by
      have ne : ¬ b' = b := fun e => same e.symm
      unfold updateBalance
      split
      · rw [find_map_borrower b b' (fun x => { x with amount := applyMoney kind cents x.amount }) fun _ => rfl]
        simp [ne]
      · split
        · simp [same]
        · rfl
    simp only [hfind, same, decide_false, Bool.false_and, Bool.false_eq_true, or_false, if_false]
    exact before

theorem canonical_updateBalance {kind : RecordKind} {b : Code} {cents : Nat} {s : State}
    (h : (s.rm.balances.map Balance.borrower).Nodup ∧ s.rm.balances.length ≤ 256) :
    ((updateBalance kind b cents s).rm.balances.map Balance.borrower).Nodup ∧
      (updateBalance kind b cents s).rm.balances.length ≤ 256 := by
  unfold updateBalance
  split
  · refine ⟨?_, by simpa using h.2⟩
    have : ∀ x : Balance, (if x.borrower = b then { x with amount := applyMoney kind cents x.amount } else x).borrower =
        x.borrower := fun x => by split <;> rfl
    simpa [List.map_map, Function.comp_def, this] using h.1
  · rename_i none
    split
    · rename_i room
      refine ⟨?_, by simpa [Config.balancesMax] using room⟩
      rw [List.map_append, List.nodup_append]
      refine ⟨h.1, by simp, fun x hx y hy => ?_⟩
      obtain ⟨z, hz, rfl⟩ := List.mem_map.mp hx
      obtain rfl : y = b := by simpa using hy
      have := List.find?_eq_none.mp (show s.rm.balances.find? (fun x => x.borrower == y) = _ from none) z hz
      simpa using this
    · exact h

/-- The entry of a FINE or PAYMENT, UNTRACKED where the BALANCE TABLE has no place for it (R90). -/
def Entry.ofMoney (e : Entry) (b : Code) (cents : Nat) (s : State) : Entry :=
  { e with borrower := some b, amount := some cents, flags := { e.flags with untracked := !s.tracks b } }

/-- What a FINE or PAYMENT does to the BALANCE TABLE (R90). -/
theorem updateBalance_balances (kind : RecordKind) (b : Code) (cents : Nat) (s : State) :
    (updateBalance kind b cents s).rm.balances = s.balancesCharged b (applyMoney kind cents) := by
  unfold updateBalance State.balancesCharged
  cases s.balanceEntry b with
  | some _ =>
    refine List.map_congr_left fun x _ => ?_
    split
    · rename_i h; rw [← h]
    · rfl
  | none => by_cases room : s.rm.balances.length < 256 <;> simp [room, Config.balancesMax]

/-- The BALANCE TABLE is brought to the fold whether the record stands in the journal yet or not. -/
theorem updateBalance_writeRecord (kind : RecordKind) (b : Code) (cents : Nat) (e : Entry) (s : State) :
    (updateBalance kind b cents (writeRecord e s)).rm.balances = (updateBalance kind b cents s).rm.balances := by
  rw [updateBalance_balances, updateBalance_balances]
  rfl

theorem writeMoney_eq (e : Entry) (b : Code) (cents : Nat) (s : State) : writeMoney e b cents s =
    { s with rm := { s.rm with
      journal := s.rm.journal ++ [(e.ofMoney b cents s).record s], nextSeq := (s.rm.nextSeq + 1) % 65536,
      balances := (updateBalance e.kind b cents s).rm.balances } } := by
  unfold writeMoney
  rw [updateBalance_eq, updateBalance_writeRecord]
  rfl

theorem writes_money {e : Entry} {b : Code} {cents : Nat} {s : State} (room : s.rm.journal.length < 4096)
    (money : e.kind = .fine ∨ e.kind = .payment) : Writes s (writeMoney e b cents s) := by
  rw [writeMoney_eq]
  refine writes_append (r := (e.ofMoney b cents s).record s) rfl rfl fun g =>
    ⟨⟨by simpa using room, g.rm.canonical.loans, g.rm.canonical.blocks, g.rm.canonical.flags,
        canonical_updateBalance g.rm.canonical.balances, g.rm.canonical.closures⟩,
      numbered_append g.rm.numbered _ rfl _ rfl rfl, fun b' => ?_, g.rm.sound.loans, g.rm.sound.flags⟩
  exact balances_after_money g.rm.sound money b cents ((e.ofMoney b cents s).record s) rfl rfl rfl rfl b'

@[simp] theorem writeMoney_length (e : Entry) (b : Code) (cents : Nat) (s : State) :
    (writeMoney e b cents s).rm.journal.length = s.rm.journal.length + 1 := by
  rw [writeMoney_eq]
  simp

/-! ### The threshold test (R49, R52, R92) -/

theorem putBlock_journal (b : Block) (s : State) : (putBlock b s).rm.journal = s.rm.journal := by
  unfold putBlock; split <;> rfl

theorem removeBlockOf_journal (b : Code) (s : State) : (removeBlockOf b s).rm.journal = s.rm.journal := by
  unfold removeBlockOf; split <;> rfl

theorem putFlag_journal (f : FlagEntry) (s : State) : (putFlag f s).rm.journal = s.rm.journal := by
  unfold putFlag; split <;> rfl

theorem removeFlagOf_journal (item : Code) (s : State) : (removeFlagOf item s).rm.journal = s.rm.journal := by
  unfold removeFlagOf; split <;> rfl

theorem removeLoan_journal (item : Code) (s : State) : (removeLoan item s).rm.journal = s.rm.journal := by
  unfold removeLoan; split <;> rfl

theorem writes_requestBlock {st : Option Station} {p : Port} {b : Code} {s : State} (room : s.rm.journal.length < 4096) :
    Writes s (requestBlock st p b s) := by
  unfold requestBlock
  split
  · rename_i list
    exact (writes_putBlock fun _ => list).trans (writes_record (by rw [putBlock_journal]; exact room) (by simp) (by simp))
  · exact (quiet_postStaff ..).writes

theorem writes_liftBlock {st : Option Station} {p : Port} {b : Code} {s : State} (room : s.rm.journal.length < 4096) :
    Writes s (liftBlock st p b s) :=
  (writes_removeBlockOf b s).trans (writes_record (by rw [removeBlockOf_journal]; exact room) (by simp) (by simp))

/-- A threshold test writes what the room test counted for it (R35, R92, R93). -/
theorem writes_runTest {st : Option Station} {p : Port} {b : Code} {s : State}
    (room : s.rm.journal.length + s.testRecords b ≤ 4096) : Writes s (runTest st p b s) := by
  unfold runTest
  unfold State.testRecords at room
  split
  · exact .refl s
  · rename_i act; exact writes_requestBlock (by simp [act] at room; omega)
  · rename_i act; exact writes_liftBlock (by simp [act] at room; omega)

theorem testRecords_le (s : State) (b : Code) : s.testRecords b ≤ 1 := by unfold State.testRecords; split <;> omega

theorem runTest_length_le (st : Option Station) (p : Port) (b : Code) (s : State) :
    (runTest st p b s).rm.journal.length ≤ s.rm.journal.length + s.testRecords b := by
  unfold runTest State.testRecords
  split
  · simp
  · rename_i act
    unfold requestBlock
    split
    · simp [act, putBlock_journal]
    · rw [(postStaff_same _ s).eq]; simp
  · rename_i act; simp [act, liftBlock, removeBlockOf_journal]

/-! ### The end of a step (R38) -/

theorem highWater_armed (s : State) :
    (highWater s).armed = (s.armed && !decide (3584 ≤ s.rm.journal.length)) := by
  unfold highWater Config.highWaterMark
  by_cases h : s.armed = true <;> by_cases k : 3584 ≤ s.rm.journal.length <;> simp [h, k]

theorem core_armed (s : State) (a : Bool) : Core s { s with armed := a } :=
  ⟨rfl, id, id, fun ⟨b, r⟩ => ⟨⟨b.events, b.scans, b.lines, b.slips⟩, r⟩, id, fun g => ⟨g.rm, g.commit, g.clock⟩⟩

/-- JOURNAL-HIGH but for the arming. -/
theorem highWater_quiet (s : State) : ∃ t, Quiet s t ∧ t.rm = s.rm ∧ highWater s = { t with armed := (highWater s).armed } := by
  unfold highWater
  split
  · exact ⟨_, quiet_postStaff _ s, by rw [(postStaff_same _ s).eq], rfl⟩
  · exact ⟨s, .refl s, rfl, rfl⟩

theorem kept_highWater (s : State) : Kept s (highWater s) := by
  obtain ⟨t, q, _, e⟩ := highWater_quiet s
  rw [e]
  exact ⟨q.toCore.trans (core_armed t _), fun d => ⟨(q.desk d).owned, (q.desk d).waits⟩, q.night, fun r => q.config ▸ r⟩

@[simp] theorem highWater_rm (s : State) : (highWater s).rm = s.rm := by rw [highWater_frame]
@[simp] theorem highWater_config (s : State) : (highWater s).config = s.config := by rw [highWater_frame]
@[simp] theorem highWater_pfail (s : State) : (highWater s).pfail = s.pfail := by rw [highWater_frame]
@[simp] theorem highWater_owner (s : State) (st : Station) : (highWater s).owner st = s.owner st :=
  owner_of_config (highWater_config s) st

/-- A record-memory step that added at least one record, ended by JOURNAL-HIGH, is a whole event. -/
theorem Writes.ended {s t : State} (h : Writes s t) (power : s.pfail = false)
    (more : s.rm.journal.length < t.rm.journal.length) : Whole s (highWater t) :=
  ⟨(Kept.mk h.toCore h.desk h.night fun r => h.config ▸ r).trans (kept_highWater t),
    fun st _ => (highWater_owner t st).trans (owner_of_config h.config st),
    h.grows.trans (.of_content (by simp)), by simp [ArmedFollows, highWater_armed, h.armed, more],
    (highWater_pfail t).trans h.pfail, fun p => by rw [power] at p; cases p⟩

end Sys2Proof.Machine
end

section
/-! PROOF. What the shared operations of the SLIP UNIT, the transaction slots, the wand stations, mode control and the link keep: each is
quiet, that is, it keeps every invariant and writes no record (P01's preorder `Quiet`). -/

namespace Sys2Proof.Machine

/-! ### The SLIP UNIT -/

@[simp] theorem sendHead_queue (u : SlipUnit) : (sendHead u).queue = u.queue := by unfold sendHead; split <;> rfl
@[simp] theorem sendHead_waiting (u : SlipUnit) : (sendHead u).waiting = u.waiting := by unfold sendHead; split <;> rfl
@[simp] theorem beginPrinting_queue (u : SlipUnit) : (beginPrinting u).queue = u.queue := by
  unfold beginPrinting; split <;> simp
@[simp] theorem beginPrinting_waiting (u : SlipUnit) : (beginPrinting u).waiting = u.waiting := by
  unfold beginPrinting; split <;> simp
@[simp] theorem finishLine_queue (u : SlipUnit) : (finishLine u).queue = u.queue := by unfold finishLine; split <;> rfl
@[simp] theorem finishLine_waiting (u : SlipUnit) : (finishLine u).waiting = u.waiting := by unfold finishLine; split <;> rfl

/-- A change of the printer that leaves the queue and the closing-wait list. -/
theorem quiet_onPrinter {f : SlipUnit → SlipUnit} {s : State} (queue : (f s.slip).queue = s.slip.queue)
    (waiting : (f s.slip).waiting = s.slip.waiting) : Quiet s (onSlip f s) :=
  quiet_onSlip (fun h => by rwa [queue]) waiting

theorem quiet_faultLast {f : State → State} {s : State} (h : Quiet s (f s)) : Quiet s (faultLast f s) := by
  unfold faultLast printerFault
  exact .ite (fun _ => h.trans (quiet_postAll ..)) fun _ => h

theorem quiet_enterReady (s : State) : Quiet s (enterReady s) := quiet_onPrinter rfl rfl

theorem quiet_queueSlip {sl : Slip} {s : State} (room : s.slip.queue.length < 8) : Quiet s (queueSlip sl s) := by
  have enters : Quiet s { s with
      nextSlip := nextSlipNumber s.nextSlip,
      slip := { s.slip with queue := s.slip.queue ++ [numbered s sl], lastSlip := takeLast (numbered s sl) s.slip.lastSlip } } :=
    (quiet_onSlip (f := fun u => { u with
      queue := u.queue ++ [numbered s sl], lastSlip := takeLast (numbered s sl) u.lastSlip })
      (fun _ => by rw [List.length_append]; exact room) rfl).trans (quiet_flags ..)
  unfold queueSlip
  dsimp only
  split
  · exact .ite (fun _ => enters.trans (quiet_onPrinter rfl rfl)) fun _ => enters
  · exact enters.trans (quiet_onPrinter (by simp) (by simp))
  · exact enters

@[simp] theorem queueSlip_waiting (sl : Slip) (s : State) : (queueSlip sl s).slip.waiting = s.slip.waiting := by
  unfold queueSlip
  dsimp only
  split
  · split <;> rfl
  · simp
  · rfl

@[simp] theorem queueSlip_slot (sl : Slip) (s : State) (st : Station) : (queueSlip sl s).slot st = s.slot st := by
  rw [queueSlip_frame]; rfl
@[simp] theorem queueSlip_config (sl : Slip) (s : State) : (queueSlip sl s).config = s.config := by rw [queueSlip_frame]
@[simp] theorem queueSlip_mode (sl : Slip) (s : State) : (queueSlip sl s).mode = s.mode := by rw [queueSlip_frame]

/-! ### Slots within a transaction -/

/-- A slot whose state, reopen-pending code and lines stand. -/
theorem quiet_putSlot_same {s : State} {st : Station} {x : Slot} (state : x.state = (s.slot st).state)
    (reopen : x.reopen = (s.slot st).reopen) (draft : x.draft = (s.slot st).draft) : Quiet s (s.putSlot st x) :=
  quiet_putSlot (by rw [draft]; exact id) (by rw [state]; exact .inl) (by rw [state]) fun _ h => by rwa [reopen, state]

theorem quiet_restartTimer (st : Station) (s : State) : Quiet s (restartTimer st s) := quiet_putSlot_same rfl rfl rfl

theorem quiet_dropOldestScan (st : Station) (s : State) : Quiet s (dropOldestScan st s) :=
  quiet_putStation (fun h => by rw [List.length_tail]; omega) fun _ => id

theorem quiet_takeCode (st : Station) (s : State) : Quiet s (takeCode st s) :=
  (quiet_dropOldestScan st s).trans (quiet_restartTimer st _)

theorem quiet_clearReopen (st : Station) (s : State) : Quiet s (clearReopen st s) :=
  quiet_putSlot id .inl Iff.rfl fun _ h => ⟨rfl, h.2⟩

theorem quiet_addLine {st : Station} {l : ItemLine} {s : State} (room : (s.slot st).draft.length < 32) :
    Quiet s (addLine st l s) :=
  quiet_putSlot (fun _ => by rw [List.length_append]; exact room) .inl Iff.rfl fun _ => id

theorem quiet_reportRefusal (st : Station) (c : Code) (r : Refuse) (s : State) : Quiet s (reportRefusal st c r s) :=
  quiet_postOwner ..

theorem quiet_refuseStep (st : Station) (c : Code) (r : Refuse) (s : State) : Quiet s (refuseStep st c r s) :=
  (quiet_reportRefusal ..).trans (quiet_tone ..)

theorem quiet_reportBlocked (st : Station) (b : Code) (s : State) : Quiet s (reportBlocked st b s) :=
  (quiet_postOwner ..).trans (quiet_tone ..)

theorem quiet_reportPatronOk (st : Station) (b : Code) (s : State) : Quiet s (reportPatronOk st b s) :=
  (quiet_postOwner ..).trans (quiet_tone ..)

theorem ne_idle_of_open {x : SlotState} (isOpen : x.isOpen = true) : x ≠ .idle := fun h => by rw [h] at isOpen; cases isOpen
theorem ne_closing_of_open {x : SlotState} (isOpen : x.isOpen = true) : x ≠ .closing := fun h => by rw [h] at isOpen; cases isOpen

/-- An open slot in another open state. -/
theorem quiet_putSlot_open {s : State} {st : Station} {x : Slot} (isOpen : (s.slot st).state.isOpen = true)
    (new : x.state.isOpen = true) (draft : x.draft = (s.slot st).draft) : Quiet s (s.putSlot st x) :=
  quiet_putSlot (by rw [draft]; exact id) (fun _ => .inl (ne_idle_of_open isOpen))
    ⟨fun h => absurd h (ne_closing_of_open new), fun h => absurd h (ne_closing_of_open isOpen)⟩
    fun _ h => absurd (h.2.symm.trans isOpen) (by simp)

theorem quiet_patronStepOf {st : Station} {c : Code} {s : State} (waits : (s.slot st).state = .awaitPatron) :
    Quiet s (patronStepOf st c s) := by
  have taken : ∀ x : SlotState, x.isOpen = true →
      Quiet s (s.putSlot st { s.slot st with state := x, patron := some c, patronClass := some (borrowerClassOf c) }) :=
    fun x hx => quiet_putSlot_open (by rw [waits]; rfl) hx rfl
  unfold patronStepOf
  exact .ite (fun _ => quiet_refuseStep ..) fun _ => .ite (fun _ => quiet_refuseStep ..) fun _ =>
    .ite (fun _ => (taken .patronBlocked rfl).trans (quiet_reportBlocked ..)) fun _ =>
      (taken .serving rfl).trans (quiet_reportPatronOk ..)

theorem quiet_blockedStep {st : Station} {c patron : Code} {s : State} (isOpen : (s.slot st).state.isOpen = true) :
    Quiet s (blockedStep st c patron s) := by
  have still : ((reportRefusal st c .blocked s).slot st).state.isOpen = true := by
    rw [reportRefusal, (postOwner_same ..).eq]; exact isOpen
  have barred := quiet_putSlot_open
    (x := { (reportRefusal st c .blocked s).slot st with state := .patronBlocked }) still rfl rfl
  exact ((quiet_reportRefusal st c .blocked s).trans barred).trans (quiet_reportBlocked ..)

/-! ### The end of a transaction -/

/-- The desk but for the closing-wait list at one station, which is in transit between CLOSING and IDLE. -/
structure State.DeskBut (s : State) (st : Station) : Prop where
  owned : s.Owned
  nodup : (s.slip.waiting.map Prod.fst).Nodup
  waits : ∀ st', st' ∈ s.slip.waiting.map Prod.fst ↔ st' ≠ st ∧ (s.slot st').state = .closing

theorem State.Desk.but {s : State} {st : Station} (d : s.Desk) (open_ : (s.slot st).state ≠ .closing) : s.DeskBut st :=
  ⟨d.owned, d.waits.1, fun st' => (d.waits.2 st').trans ⟨fun h => ⟨fun e => open_ (e ▸ h), h⟩, fun h => h.2⟩⟩

theorem desk_putSlot_fresh {s : State} {st : Station} (d : s.DeskBut st) : (s.putSlot st Slot.fresh).Desk := by
  refine ⟨fun st' busy => ?_, d.nodup, fun st' => (d.waits st').trans ?_⟩
  · by_cases h : st' = st
    · subst h; simp [Slot.fresh] at busy
    · rw [State.slot_putSlot_other _ _ h] at busy; exact d.owned st' busy
  · by_cases h : st' = st
    · subst h; simp [Slot.fresh]
    · simp [State.slot_putSlot_other _ _ h, h]

/-- A slot that has left its transaction, its TRANSACTION-CLOSED posted. -/
def leftSlot (st : Station) (number : Option Nat) (s : State) : State :=
  postOwner st (closedEvent st number) (s.putSlot st Slot.fresh)

theorem leaveSlot_none (st : Station) (number : Option Nat) (s : State) :
    leaveSlot st number none s = reportWaiting st (leftSlot st number s) := rfl

theorem leaveSlot_some (st : Station) (number : Option Nat) (c : Code) (s : State) :
    leaveSlot st number (some c) s = reopenSlot st (s.slot st).mode (s.slot st).slipWanted c (leftSlot st number s) := rfl

theorem leftSlot_same (st : Station) (number : Option Nat) (s : State) : SameButDesk s (leftSlot st number s) :=
  (putSlot_same s st Slot.fresh).trans (postOwner_same ..).desk

@[simp] theorem leftSlot_slot (st : Station) (number : Option Nat) (s : State) : (leftSlot st number s).slot st = Slot.fresh := by
  unfold leftSlot
  rw [(postOwner_same st (closedEvent st number) (s.putSlot st Slot.fresh)).eq]
  exact State.slot_putSlot s st Slot.fresh

theorem SameButDesk.owner {s t : State} (h : SameButDesk s t) (st : Station) : t.owner st = s.owner st :=
  owner_of_config (by rw [h]) st

theorem SameButDesk.mode {s t : State} (h : SameButDesk s t) : t.mode = s.mode := by rw [h]

theorem night_of_day {s : State} (day : s.mode ≠ .night) : s.NightClosed := fun dark => absurd dark day

theorem quietBut_reopenSlot {st : Station} {mode : Option TxMode} {slip : Bool} {c : Code} {s : State} :
    QuietBut s (reopenSlot st mode slip c s) := by
  unfold reopenSlot
  dsimp only
  split
  · exact quietBut_putSlot fun _ => by simp [Slot.fresh]
  · exact (quietBut_putSlot fun _ => by simp [Slot.fresh]).trans (quiet_patronStepOf (by simp)).toQuietBut

theorem desk_reopenSlot {st : Station} {mode : Option TxMode} {slip : Bool} {c : Code} {s : State} (d : s.Desk)
    (idle : (s.slot st).state = .idle) (owner : s.owner st ≠ none) : (reopenSlot st mode slip c s).Desk := by
  have opened : ∀ x : Slot, x.state = .awaitPatron → (s.putSlot st x).Desk := fun x hx =>
    desk_putSlot d (fun _ => .inr owner) (by simp [hx, idle])
  unfold reopenSlot
  dsimp only
  split
  · exact opened _ rfl
  · exact (quiet_patronStepOf (by simp)).desk (opened _ rfl)

theorem quietBut_leaveSlot {st : Station} {number : Option Nat} {reopen : Option Code} {s : State} :
    QuietBut s (leaveSlot st number reopen s) := by
  have left : QuietBut s (leftSlot st number s) :=
    (quietBut_putSlot fun _ => by simp [Slot.fresh]).trans (quiet_postOwner ..).toQuietBut
  cases reopen with
  | none => exact left.trans (quiet_reportWaiting ..).toQuietBut
  | some c => exact left.trans quietBut_reopenSlot

theorem desk_leaveSlot {st : Station} {number : Option Nat} {reopen : Option Code} {s : State} (d : s.DeskBut st)
    (owner : reopen ≠ none → s.owner st ≠ none) : (leaveSlot st number reopen s).Desk := by
  have left : (leftSlot st number s).Desk := (quiet_postOwner ..).desk (desk_putSlot_fresh d)
  cases reopen with
  | none => exact (quiet_reportWaiting ..).desk left
  | some c =>
    rw [leaveSlot_some]
    exact desk_reopenSlot left (by simp [Slot.fresh]) (by rw [(leftSlot_same ..).owner]; exact owner (by simp))

theorem night_leaveSlot {st : Station} {number : Option Nat} {reopen : Option Code} {s : State} (n : s.NightClosed)
    (day : reopen ≠ none → s.mode ≠ .night) : (leaveSlot st number reopen s).NightClosed := by
  cases reopen with
  | none => exact (quiet_reportWaiting ..).night ((quiet_postOwner ..).night (night_putSlot n fun _ _ => ⟨rfl, rfl⟩))
  | some c => exact night_of_day (by rw [(leaveSlot_same ..).mode]; exact day (by simp))

/-- In NIGHT no slot is open (R124). -/
theorem day_of_open {s : State} {st : Station} (n : s.NightClosed) (isOpen : (s.slot st).state.isOpen = true) :
    s.mode ≠ .night := fun dark => by rw [(n dark st).2.2] at isOpen; cases isOpen

theorem quiet_leaveSlot_open {st : Station} {number : Option Nat} {reopen : Option Code} {s : State}
    (isOpen : (s.slot st).state.isOpen = true) : Quiet s (leaveSlot st number reopen s) :=
  ⟨quietBut_leaveSlot, fun d => desk_leaveSlot (d.but (ne_closing_of_open isOpen)) fun _ => d.owned st (ne_idle_of_open isOpen),
    fun n => night_leaveSlot n fun _ => day_of_open n isOpen⟩

/-- A change of the SLIP UNIT and of the next slip number after a quiet event. -/
theorem QuietBut.slip {s t : State} (h : QuietBut s t) (u : SlipUnit) (n : Nat)
    (queue : s.slip.queue.length ≤ 8 → u.queue.length ≤ 8) : QuietBut s { t with slip := u, nextSlip := n } where
  pending := h.pending
  clock := h.clock
  random := h.random
  queues k := by
    obtain ⟨b, r⟩ := h.queues k
    exact ⟨⟨b.events, b.scans, b.lines, queue k.1.slips⟩, r⟩
  sent := h.sent
  records g := ⟨(h.records g).rm, (h.records g).commit, (h.records g).clock⟩
  content := h.content
  armed := h.armed
  pfail := h.pfail
  config := h.config

/-- A slot closed into CLOSING (R131). -/
theorem quiet_closingAt {st : Station} {reopen : Option Code} {s : State} (isOpen : (s.slot st).state.isOpen = true) :
    Quiet s (s.closingAt st reopen) where
  toQuietBut := (quietBut_putSlot (x := { s.slot st with state := .closing, timer := none, reopen := reopen }) id).slip _ _ id
  desk d := by
    have absent : st ∉ s.slip.waiting.map Prod.fst := fun h => ne_closing_of_open isOpen ((d.waits.2 st).mp h)
    refine ⟨fun st' busy => ?_, ?_, fun st' => ?_⟩
    · by_cases h : st' = st
      · subst h; exact d.owned st' (ne_idle_of_open isOpen)
      · exact d.owned st' (by simpa [State.closingAt, State.slot, State.putSlot, PerStation.get_set_other _ _ h] using busy)
    · simp only [State.closingAt, List.map_append, List.map_cons, List.map_nil]
      exact List.nodup_append.mpr ⟨d.waits.1, by simp, fun x hx y hy e => absent (by simp_all)⟩
    · simp only [State.closingAt, List.map_append, List.map_cons, List.map_nil, List.mem_append, List.mem_singleton, d.waits.2 st']
      by_cases h : st' = st
      · subst h; simp [State.slot, State.putSlot]
      · simp [State.slot, State.putSlot, PerStation.get_set_other _ _ h, h]
  night n := night_of_day (day_of_open (s := s) n isOpen)

theorem closeSlot_full {st : Station} {reopen : Option Code} {s : State} (slip : s.wantsSlip st = true) (full : s.slipRoom = false) :
    closeSlot st reopen s = s.closingAt st reopen := by
  simp only [closeSlot, slip, full, if_true, Bool.false_eq_true, if_false]; rfl

theorem quiet_closeSlot {st : Station} {reopen : Option Code} {s : State} (isOpen : (s.slot st).state.isOpen = true) :
    Quiet s (closeSlot st reopen s) := by
  by_cases slip : s.wantsSlip st = true
  · by_cases room : s.slipRoom = true
    · rw [closeSlot, if_pos slip, if_pos room]
      exact (quiet_queueSlip (of_decide_eq_true room)).trans
        (quiet_leaveSlot_open (by simpa using isOpen))
    · rw [closeSlot_full slip (by simpa using room)]
      exact quiet_closingAt isOpen
  · rw [closeSlot, if_neg slip]
    exact quiet_leaveSlot_open isOpen

theorem quiet_endSlot (st : Station) (s : State) : Quiet s (endSlot st s) := by
  unfold endSlot
  exact .ite (fun isOpen => .ite (fun _ => quiet_leaveSlot_open isOpen) fun _ => quiet_closeSlot isOpen) fun _ => .refl s

theorem quiet_endSlots (sts : List Station) (s : State) : Quiet s (endSlots sts s) :=
  quiet_faultLast ((quiet_foldl _ (fun t st => quiet_clearReopen st t) sts s).trans
    (quiet_foldl _ (fun t st => quiet_endSlot st t) sts _))

theorem quiet_onInactivityTimeout (st : Station) (s : State) : Quiet s (onInactivityTimeout st s) := by
  unfold onInactivityTimeout
  exact .ite (fun _ => ((quiet_postOwner ..).trans (quiet_tone ..)).trans (quiet_faultLast (quiet_endSlot ..))) fun _ => .refl s

/-! ### The printed slip and the printer's events -/

@[simp] theorem queueSlip_queue (sl : Slip) (s : State) :
    (queueSlip sl s).slip.queue = s.slip.queue ++ [numbered s sl] := by
  unfold queueSlip
  dsimp only
  split
  · split <;> rfl
  · simp
  · rfl

/-- A slip printed whole: it leaves the queue with SLIP-PRINTED (R139). -/
def slipGone (sl : Slip) (s : State) : State :=
  post sl.port { kind := .slipPrinted, station := sl.station, value := sl.number.map .number }
    (onSlip (fun u => { u with queue := u.queue.tail }) s)

/-- The head of the closing-wait list admitted to the queue (R104, R132). -/
def admitWaiting (s : State) : State :=
  match s.slip.waiting with
  | [] => s
  | (st, w) :: rest =>
    leaveSlot st (some s.nextSlip) (s.slot st).reopen (queueSlip w (onSlip (fun u => { u with waiting := rest }) s))

theorem slipPrinted_eq (sl : Slip) (s : State) : slipPrinted sl s =
    if (admitWaiting (slipGone sl s)).slip.queue.isEmpty then enterReady (admitWaiting (slipGone sl s))
    else onSlip sendHead (admitWaiting (slipGone sl s)) := rfl

theorem quiet_slipGone (sl : Slip) (s : State) : Quiet s (slipGone sl s) :=
  (quiet_onSlip (fun h => by rw [List.length_tail]; omega) rfl).trans (quiet_post ..)

theorem admitWaiting_nil {s : State} (h : s.slip.waiting = []) : admitWaiting s = s := by
  unfold admitWaiting; rw [h]

theorem admitWaiting_cons {s : State} {st : Station} {w : Slip} {rest : List (Station × Slip)}
    (h : s.slip.waiting = (st, w) :: rest) : admitWaiting s = leaveSlot st (some s.nextSlip) (s.slot st).reopen
      (queueSlip w (onSlip (fun u => { u with waiting := rest }) s)) := by
  unfold admitWaiting; rw [h]

/-- The head of the closing-wait list taken out of it, its slip queued: the slot is in transit to IDLE. -/
theorem deskBut_admitted {s : State} {st : Station} {w : Slip} {rest : List (Station × Slip)} (d : s.Desk)
    (h : s.slip.waiting = (st, w) :: rest) : (queueSlip w (onSlip (fun u => { u with waiting := rest }) s)).DeskBut st := by
  have nodup := d.waits.1
  rw [h, List.map_cons, List.nodup_cons] at nodup
  refine ⟨fun st' busy => ?_, by simpa using nodup.2, fun st' => ?_⟩
  · rw [owner_of_config (queueSlip_config ..)]
    exact d.owned st' (by rwa [queueSlip_slot] at busy)
  · have waits := d.waits.2 st'
    rw [h, List.map_cons, List.mem_cons] at waits
    simp only [queueSlip_waiting, queueSlip_slot, onSlip_slip]
    constructor
    · intro m
      refine ⟨fun e => nodup.1 (e ▸ m), waits.mp (.inr m)⟩
    · rintro ⟨ne, closing⟩
      exact (waits.mpr closing).resolve_left ne

theorem quiet_slipPrinted {sl : Slip} {s : State} (some_ : s.slip.queue ≠ []) : Quiet s (slipPrinted sl s) := by
  have gone := quiet_slipGone sl s
  have tail : (slipGone sl s).slip.queue = s.slip.queue.tail := rfl
  have admitted : Quiet s (admitWaiting (slipGone sl s)) := by
    cases h : (slipGone sl s).slip.waiting with
    | nil => rw [admitWaiting_nil h]; exact gone
    | cons x rest =>
      obtain ⟨st, w⟩ := x
      rw [admitWaiting_cons h]
      have closing : (slipGone sl s).Desk → ((slipGone sl s).slot st).state = .closing := fun d =>
        (d.waits.2 st).mp (by simp [h])
      refine ⟨?_, fun d => desk_leaveSlot (deskBut_admitted (gone.desk d) h) fun _ => ?_, fun n => night_leaveSlot ?_ fun c => ?_⟩
      · have queued := gone.toQuietBut.slip (queueSlip w (onSlip (fun u => { u with waiting := rest }) (slipGone sl s))).slip
          (queueSlip w (onSlip (fun u => { u with waiting := rest }) (slipGone sl s))).nextSlip fun le => by
            have pos := List.length_pos_iff.mpr some_
            simp only [queueSlip_queue, onSlip_slip, tail, List.length_append, List.length_tail, List.length_cons,
              List.length_nil]
            omega
        have e := queueSlip_frame w (onSlip (fun u => { u with waiting := rest }) (slipGone sl s))
        rw [e]
        exact queued.trans quietBut_leaveSlot
      · rw [owner_of_config (queueSlip_config ..)]
        exact (gone.desk d).owned st (by rw [closing (gone.desk d)]; simp)
      · intro dark st'
        rw [queueSlip_mode] at dark
        have := gone.night n dark st'
        rw [queueSlip_slot, queueSlip_frame]
        exact this
      · rw [queueSlip_mode]
        exact fun dark => c (gone.night n dark st).2.1
  rw [slipPrinted_eq]
  exact .ite (fun _ => admitted.trans (quiet_enterReady _)) fun _ => admitted.trans (quiet_onPrinter (by simp) (by simp))

theorem quiet_onLinePrinted (s : State) : Quiet s (onLinePrinted s) := by
  unfold onLinePrinted
  cases h : s.slip.queue with
  | nil => exact .refl s
  | cons sl rest =>
    exact .ite (fun _ => .ite (fun _ => quiet_onPrinter rfl rfl) fun _ => .ite (fun _ => quiet_onPrinter (by simp) (by simp))
      fun _ => .ite (fun _ => quiet_onPrinter rfl rfl) fun _ => quiet_slipPrinted (by simp [h])) fun _ => .refl s

theorem quiet_onWakeComplete (s : State) : Quiet s (onWakeComplete s) := by
  unfold onWakeComplete
  exact .ite (fun _ => quiet_faultLast (quiet_onPrinter (by simp) (by simp))) fun _ => .refl s

theorem quiet_onPaperOut (s : State) : Quiet s (onPaperOut s) := by
  have level : Quiet s (onSlip (fun u => { u with paperOut := true }) s) := quiet_onPrinter rfl rfl
  unfold onPaperOut printerFault
  refine .ite (fun _ => (level.trans (quiet_onSlip (fun h => ?_) rfl)).trans (quiet_postAll ..)) fun _ => level
  dsimp only
  split
  · rename_i e; rw [e] at h; exact h
  · simp

theorem quiet_onPaperRestored (s : State) : Quiet s (onPaperRestored s) := by
  have level : Quiet s (onSlip (fun u => { u with paperOut := false }) s) := quiet_onPrinter rfl rfl
  unfold onPaperRestored
  exact .ite (fun _ => (level.trans (quiet_postAll ..)).trans (quiet_onPrinter (by simp) (by simp))) fun _ => level

theorem quiet_onIdleTimerExpiry (s : State) : Quiet s (onIdleTimerExpiry s) := by
  unfold onIdleTimerExpiry
  exact .ite (fun _ => quiet_onPrinter rfl rfl) fun _ => .refl s

theorem quiet_onSettleComplete (s : State) : Quiet s (onSettleComplete s) := by
  unfold onSettleComplete
  exact .ite (fun _ => .ite (fun _ => quiet_onPrinter rfl rfl) fun _ => quiet_onPrinter rfl rfl) fun _ => .refl s

/-! ### The wand stations -/

theorem quiet_setDecoder {st : Station} {d : Decoder} {s : State}
    (dark : s.mode = .night → (s.station st).decoder = .disabled → d = .disabled) : Quiet s (setDecoder st d s) :=
  quiet_putStation id dark

/-- A decoder that is not DISABLED may enter any state: it stands in DAY (R22). -/
theorem quiet_setDecoder_live {st : Station} {d : Decoder} {s : State} (live : (s.station st).decoder ≠ .disabled) :
    Quiet s (setDecoder st d s) :=
  quiet_setDecoder fun _ h => absurd h live

theorem quiet_abandonAcquisition {st : Station} {s : State} (live : (s.station st).decoder ≠ .disabled) :
    Quiet s (abandonAcquisition st s) :=
  (quiet_setDecoder_live live).trans (quiet_tone ..)

theorem quiet_joinScans {st : Station} {c : Code} {s : State} (room : (s.station st).scans.length < 2) :
    Quiet s (joinScans st c s) := by
  have joined : Quiet s (s.putStation st { s.station st with scans := (s.station st).scans ++ [c] }) :=
    quiet_putStation (fun _ => by rw [List.length_append]; exact room) fun _ => id
  unfold joinScans scanReady
  exact .ite (fun _ => joined.trans (quiet_postOwner ..)) fun _ => joined

theorem quiet_offerScan (st : Station) (c : Code) (s : State) : Quiet s (offerScan st c s) := by
  unfold offerScan
  exact .ite quiet_joinScans fun _ => .ite (fun _ => .refl s) fun _ =>
    (quiet_putStation (by exact id) (by exact fun _ => id)).trans (quiet_postOwner ..)

theorem quiet_filterCode (st : Station) (c : Code) (ms : Nat) (s : State) : Quiet s (filterCode st c ms s) := by
  unfold filterCode
  exact .ite (fun _ => .refl s) fun _ => .ite (fun _ => .refl s) fun _ =>
    (quiet_putStation (by exact id) (by exact fun _ => id)).trans (quiet_offerScan ..)

theorem quiet_onAcquisitionStart (st : Station) (s : State) : Quiet s (onAcquisitionStart st s) := by
  unfold onAcquisitionStart
  exact .ite (fun h => quiet_setDecoder_live (by simp [h.2])) fun _ => .refl s

theorem quiet_onElementMeasured (st : Station) (ticks : Nat) (s : State) : Quiet s (onElementMeasured st ticks s) := by
  unfold onElementMeasured
  split
  · rename_i h
    have live : (s.station st).decoder ≠ .disabled := by simp [h]
    exact .ite (fun _ => .ite (fun _ => quiet_setDecoder_live live) fun _ => .ite (fun _ => .refl s) fun _ =>
      quiet_abandonAcquisition live) fun _ => .refl s
  · exact .refl s

theorem quiet_onAcquisitionAbandon (st : Station) (s : State) : Quiet s (onAcquisitionAbandon st s) := by
  unfold onAcquisitionAbandon
  split
  · rename_i h
    exact .ite (fun _ => quiet_abandonAcquisition (by simp [h])) fun _ => .refl s
  · exact .refl s

theorem quiet_onQuietReached (st : Station) (s : State) : Quiet s (onQuietReached st s) := by
  unfold onQuietReached
  exact .ite (fun h => quiet_setDecoder_live (by simp [h.2])) fun _ => .refl s

theorem quiet_onDecodeSymbol (st : Station) (ms : Nat) (s : State) : Quiet s (onDecodeSymbol st ms s) := by
  unfold onDecodeSymbol
  split
  · rename_i h
    have ended : Quiet s (setDecoder st .quiet s) := quiet_setDecoder_live (by simp [h])
    refine .ite (fun _ => ?_) fun _ => .refl s
    split
    · exact ended.trans (quiet_filterCode ..)
    · exact ended.trans (quiet_tone ..)
  · exact .refl s

theorem quiet_changePresence (st : Station) (present : Bool) (s : State) : Quiet s (changePresence st present s) := by
  unfold changePresence
  refine (quiet_putStation (by exact id) ?_).trans (quiet_postOwnerOrStaff ..)
  intro dark h
  cases present <;> simp [dark, h]

theorem quiet_sampleStation (level : Bool) (st : Station) (s : State) : Quiet s (sampleStation level st s) := by
  have held : Quiet s (s.putStation st { s.station st with prevSample := some level }) := quiet_putStation id fun _ => id
  unfold sampleStation
  exact .ite (fun _ => held.trans (quiet_changePresence ..)) fun _ => held

theorem quiet_onPresenceSample (levels : PerStation Bool) (s : State) : Quiet s (onPresenceSample levels s) := by
  unfold onPresenceSample
  exact .ite (fun _ => quiet_foldl _ (fun t st => quiet_sampleStation (levels.get st) st t) _ s) fun _ => .refl s

theorem quiet_onPatternEnd (st : Station) (s : State) : Quiet s (onPatternEnd st s) := by
  unfold onPatternEnd
  exact .ite (fun _ => quiet_putStation id fun _ => id) fun _ => .refl s

end Sys2Proof.Machine
end

section
/-! PROOF. What mode control, the clock, the upload link and the updates keep, with the confirmation of an ACK (R34, R91, R93). -/

namespace Sys2Proof.Machine

/-! ### A change of mode (R22, R124, R189) -/

/-- A slot that is not open and will not reopen. -/
structure Slot.Shut (x : Slot) : Prop where
  reopen : x.reopen = none
  state : x.state.isOpen = false

theorem leaveSlot_none_slots (st : Station) (number : Option Nat) (s : State) :
    (leaveSlot st number none s).slots = s.slots.set st Slot.fresh := by
  rw [leaveSlot_none, (reportWaiting_same ..).eq, leftSlot, (postOwner_same st _ (s.putSlot st Slot.fresh)).eq]
  rfl

theorem leaveSlot_none_stations (st : Station) (number : Option Nat) (s : State) :
    (leaveSlot st number none s).stations = s.stations := by
  rw [leaveSlot_none, (reportWaiting_same ..).eq, leftSlot, (postOwner_same st _ (s.putSlot st Slot.fresh)).eq]
  rfl

/-- The end of a slot writes that slot alone, leaves it shut, and touches no station. -/
theorem endSlot_slots (st : Station) (s : State) : (endSlot st s).stations = s.stations ∧
    ∃ x, (endSlot st s).slots = s.slots.set st x ∧ x.state.isOpen = false ∧ ((s.slot st).reopen = none → x.reopen = none) := by
  have left : ∀ (number : Option Nat) (t : State), t.stations = s.stations → t.slots = s.slots →
      (leaveSlot st number none t).stations = s.stations ∧
        ∃ x, (leaveSlot st number none t).slots = s.slots.set st x ∧ x.state.isOpen = false ∧
          ((s.slot st).reopen = none → x.reopen = none) := fun number t hs hl =>
    ⟨(leaveSlot_none_stations ..).trans hs, Slot.fresh, by rw [leaveSlot_none_slots, hl], rfl, fun _ => rfl⟩
  unfold endSlot
  split
  · split
    · exact left none s rfl rfl
    · unfold closeSlot
      split
      · split
        · exact left _ _ (by rw [queueSlip_frame]) (by rw [queueSlip_frame])
        · exact ⟨rfl, _, rfl, rfl, fun _ => rfl⟩
      · exact left none s rfl rfl
  · rename_i shut
    exact ⟨rfl, s.slot st, (PerStation.set_get ..).symm, by simpa using shut, id⟩

theorem endSlot_station (st st' : Station) (s : State) : (endSlot st s).station st' = s.station st' := by
  rw [State.station, (endSlot_slots st s).1]; rfl

theorem endSlot_keeps_shut {st st' : Station} {s : State} (h : (s.slot st').Shut) : ((endSlot st s).slot st').Shut := by
  obtain ⟨_, x, slots, state, reopen⟩ := endSlot_slots st s
  rw [State.slot, slots]
  by_cases e : st' = st
  · subst e; rw [PerStation.get_set_same]; exact ⟨reopen h.reopen, state⟩
  · rw [PerStation.get_set_other _ _ e]; exact h

theorem endSlot_shuts {st : Station} {s : State} (h : (s.slot st).reopen = none) : ((endSlot st s).slot st).Shut := by
  obtain ⟨_, x, slots, state, reopen⟩ := endSlot_slots st s
  rw [State.slot, slots, PerStation.get_set_same]
  exact ⟨reopen h, state⟩

theorem endSlot_keeps_reopen {st st' : Station} {s : State} (h : (s.slot st').reopen = none) :
    ((endSlot st s).slot st').reopen = none := by
  obtain ⟨_, x, slots, _, reopen⟩ := endSlot_slots st s
  rw [State.slot, slots]
  by_cases e : st' = st
  · subst e; rw [PerStation.get_set_same]; exact reopen h
  · rw [PerStation.get_set_other _ _ e]; exact h

/-- The end of slots that no code is to reopen shuts each of them, keeps a shut one shut, and touches no station. -/
theorem endFold_shuts (l : List Station) (s : State) (h : ∀ st, (s.slot st).reopen = none) (st : Station) :
    ((s.slot st).Shut ∨ st ∈ l → ((l.foldl (fun t st => endSlot st t) s).slot st).Shut) ∧
      (l.foldl (fun t st => endSlot st t) s).station st = s.station st := by
  induction l generalizing s with
  | nil => simp
  | cons a l ih =>
    obtain ⟨shut, station⟩ := ih (endSlot a s) fun st' => endSlot_keeps_reopen (h st')
    refine ⟨fun k => shut ?_, station.trans (endSlot_station ..)⟩
    rcases k with k | k
    · exact .inl (endSlot_keeps_shut k)
    · rcases List.mem_cons.mp k with rfl | k
      · exact .inl (endSlot_shuts (h st))
      · exact .inr k

theorem clearFold_reopen (l : List Station) (s : State) (st : Station) :
    ((s.slot st).reopen = none ∨ st ∈ l → ((l.foldl (fun t st => clearReopen st t) s).slot st).reopen = none) ∧
      (l.foldl (fun t st => clearReopen st t) s).station st = s.station st := by
  induction l generalizing s with
  | nil => simp
  | cons a l ih =>
    obtain ⟨cleared, station⟩ := ih (clearReopen a s)
    refine ⟨fun h => cleared ?_, station⟩
    by_cases e : st = a
    · subst e; exact .inl (by simp [clearReopen])
    · rw [clearReopen, State.slot_putSlot_other _ _ e]
      exact h.imp id fun m => (List.mem_cons.mp m).resolve_left e

theorem SameButEvents.slot {s t : State} (h : SameButEvents s t) (st : Station) : t.slot st = s.slot st := by rw [h.eq]; rfl
theorem SameButEvents.station {s t : State} (h : SameButEvents s t) (st : Station) : t.station st = s.station st := by
  rw [h.eq]; rfl

theorem mem_allStations (st : Station) : st ∈ allStations := by cases st <;> decide

/-- The slots after a start of NIGHT, and the decoders as they were (R124). -/
theorem endSlots_all (s : State) (st : Station) :
    ((endSlots allStations s).slot st).Shut ∧ (endSlots allStations s).station st = s.station st := by
  have cleared := clearFold_reopen allStations s
  have ended := endFold_shuts allStations _ (fun st' => (cleared st').1 (.inr (mem_allStations st'))) st
  have told := faultLast_same
    (fun s => allStations.foldl (fun t st => endSlot st t) (allStations.foldl (fun t st => clearReopen st t) s)) s
  rw [endSlots, told.slot, told.station]
  exact ⟨ended.1 (.inr (mem_allStations st)), ended.2.trans (cleared st).2⟩

theorem quietBut_setDecoder (st : Station) (d : Decoder) (s : State) : QuietBut s (setDecoder st d s) where
  pending := rfl
  clock := id
  random := id
  queues := fun ⟨b, r⟩ => by
    refine ⟨⟨b.events, fun st' => ?_, b.lines, b.slips⟩, r⟩
    by_cases h : st' = st
    · subst h; simpa [setDecoder] using b.scans st'
    · rw [setDecoder, State.station_putStation_other _ _ h]; exact b.scans st'
  sent := id
  records g := ⟨g.rm, g.commit, g.clock⟩
  content := rfl
  armed := rfl
  pfail := rfl
  config := rfl

theorem quietBut_mode (m : Mode) (s : State) : QuietBut s { s with mode := m } :=
  ⟨⟨rfl, id, id, fun ⟨b, r⟩ => ⟨⟨b.events, b.scans, b.lines, b.slips⟩, r⟩, id, fun g => ⟨g.rm, g.commit, g.clock⟩⟩,
    rfl, rfl, rfl, rfl⟩

/-- The first part of a change of mode: MODE-CHANGE posted and the decoders set (R22, R189). -/
def modeEntered (m : Mode) (s : State) : State :=
  allStations.foldl (modeStation m) (postAll { kind := .modeChange, reason := some (.mode m) } { s with mode := m })

theorem changeMode_same {m : Mode} {s : State} (h : s.mode = m) : changeMode m s = s := by rw [changeMode, if_pos h]

theorem changeMode_night {s : State} (h : s.mode ≠ .night) :
    changeMode .night s = endSlots allStations (modeEntered .night s) := by rw [changeMode, if_neg h]; rfl

theorem changeMode_day {s : State} (h : s.mode ≠ .day) : changeMode .day s = modeEntered .day s := by
  rw [changeMode, if_neg h]; rfl

theorem quietBut_modeEntered (m : Mode) (s : State) :
    QuietBut s (modeEntered m s) ∧ (s.Desk → (modeEntered m s).Desk) := by
  have posted := quiet_postAll { kind := .modeChange, reason := some (.mode m) } { s with mode := m }
  have decoders : ∀ (l : List Station) (t : State), QuietBut t (l.foldl (modeStation m) t) ∧
      (t.Desk → (l.foldl (modeStation m) t).Desk) := fun l t =>
    foldl_keeps (P := fun s t => QuietBut s t ∧ (s.Desk → t.Desk)) (fun s => ⟨(Quiet.refl s).toQuietBut, id⟩)
      (fun _ _ _ h k => ⟨h.1.trans k.1, k.2 ∘ h.2⟩) _
      (fun u st => ⟨quietBut_setDecoder st _ u, fun d => ⟨d.owned, d.waits⟩⟩) l t
  refine ⟨((quietBut_mode m s).trans posted.toQuietBut).trans (decoders _ _).1, fun d => (decoders _ _).2 (posted.desk ⟨d.owned, d.waits⟩)⟩

theorem modeEntered_mode (m : Mode) (s : State) : (modeEntered m s).mode = m := by
  have h : ∀ t : State, (allStations.foldl (modeStation m) t).mode = t.mode := fun _ => rfl
  rw [modeEntered, h, (postAll_same ..).eq]

theorem modeEntered_night_decoder (s : State) (st : Station) : ((modeEntered .night s).station st).decoder = .disabled := by
  unfold modeEntered
  cases st <;> rfl

theorem quiet_changeMode (m : Mode) (s : State) : Quiet s (changeMode m s) := by
  by_cases same : s.mode = m
  · rw [changeMode_same same]; exact .refl s
  · obtain ⟨entered, desk⟩ := quietBut_modeEntered m s
    cases m with
    | day =>
      rw [changeMode_day same]
      exact ⟨entered, desk, fun _ => night_of_day (by rw [modeEntered_mode]; simp)⟩
    | night =>
      rw [changeMode_night same]
      have ended := quiet_endSlots allStations (modeEntered .night s)
      refine ⟨entered.trans ended.toQuietBut, fun d => ended.desk (desk d), fun _ _ st => ?_⟩
      obtain ⟨shut, station⟩ := endSlots_all (modeEntered .night s) st
      rw [station]
      exact ⟨modeEntered_night_decoder s st, shut.reopen, shut.state⟩

theorem quiet_judgeMode (s : State) : Quiet s (judgeMode s) := by
  unfold judgeMode
  exact .ite (fun _ => .refl s) fun _ => (quiet_flags ..).trans (quiet_changeMode ..)

theorem quiet_rejudgeMode (s : State) : Quiet s (rejudgeMode s) := by
  unfold rejudgeMode
  exact .ite (fun _ => quiet_flags ..) fun _ => (quiet_flags ..).trans (quiet_changeMode ..)

/-! ### The link: runs, contention, frames and replies -/

/-- A change of the link at a state whose run holds no SENT records, to a run state that may be any; no jam of a reply stands after it. -/
theorem quiet_onLink_from {f : Link → Link} {s : State} (random : (f s.link).random = s.link.random)
    (none : ¬ s.link.run.holdsSent) (jam : s.SentFirst → (f s.link).jam = some .reply → (f s.link).run = .sendReply) :
    Quiet s (onLink f s) :=
  quiet_onLink random fun h => sentFirst_onLink h (fun k => absurd k none) (jam h)

/-- Outside SEND-REPLY no jam of a reply is sent (R159). -/
theorem no_reply_jam {s : State} (h : s.SentFirst) (quiet : s.link.jam = none ∨ s.link.run ≠ .sendReply) :
    s.link.jam ≠ some .reply := by
  rcases quiet with q | q
  · simp [q]
  · exact fun j => q (h.2 j)

theorem quiet_beginRun {s : State} (idle : s.link.run.inRun = false) : Quiet s (beginRun s) := by
  have run : s.link.run = .idle ∨ s.link.run = .armed := by cases h : s.link.run <;> simp_all [RunState.inRun]
  refine quiet_onLink_from rfl ?_ fun h j => absurd j (no_reply_jam h (.inr ?_))
  · rcases run with r | r <;> simp [RunState.holdsSent, r]
  · rcases run with r | r <;> simp [r]

theorem unsend_content (s : State) : (unsend s).rm.content = s.rm.content := by
  simp [unsend, Collections.content, Record.content, Function.comp_def]

theorem unsend_unsent (s : State) : ∀ r ∈ (unsend s).rm.journal, r.sent = false := by
  simp [unsend]

/-- The upload state of the records and the link changed together. -/
theorem quiet_upload {s : State} {c : Collections} {l : Link} (content : c.content = s.rm.content)
    (random : l.random = s.link.random) (sent : s.SentFirst → State.SentFirst { s with rm := c, link := l }) :
    Quiet s { s with rm := c, link := l } where
  pending := rfl
  clock := id
  random h := by simpa [random] using h
  queues := fun ⟨b, r⟩ => ⟨⟨b.events, b.scans, b.lines, b.slips⟩, r⟩
  sent := sent
  records g := ⟨g.rm.of_content content, g.commit, g.clock⟩
  content := content
  armed := rfl
  pfail := rfl
  config := rfl
  desk d := ⟨d.owned, d.waits⟩
  night := id

theorem quiet_unsend (s : State) : Quiet s (unsend s) :=
  quiet_upload (unsend_content s) rfl fun h => sentFirst_of_unsent (unsend_unsent s) h.2

theorem quiet_runFailed {r : FailReason} {s : State} (jam : s.link.jam = none ∨ s.link.run ≠ .sendReply) :
    Quiet s (runFailed r s) := by
  have told := postStaff_same { kind := .uploadFailed, reason := some (.fail r) } (unsend s)
  unfold runFailed
  refine ((quiet_unsend s).trans (quiet_postStaff ..)).trans (quiet_onLink rfl fun h => sentFirst_of_unsent ?_ fun j => ?_)
  · rw [onLink_rm, told.eq]; exact unsend_unsent s
  · have still : (postStaff { kind := .uploadFailed, reason := some (.fail r) } (unsend s)).link = s.link := by rw [told.eq]; rfl
    exact absurd j (no_reply_jam (s := postStaff { kind := .uploadFailed, reason := some (.fail r) } (unsend s)) h
      (by rw [still]; exact jam))

theorem seeksGap_some {s : State} {n : Nat} (h : s.seeksGap = some n) :
    s.running = true ∧ s.link.run = .contend ∧ s.link.jam = none ∧ s.link.seek = .gap n := by
  unfold State.seeksGap at h
  split at h
  · rename_i c
    split at h
    · rename_i k; cases h; exact ⟨c.1, c.2.1, c.2.2, k⟩
    · cases h
  · cases h

theorem quiet_judgeLink (s : State) : Quiet s (judgeLink s) := by
  have flag : Quiet s (onLink (fun l => { l with windowOpen := s.windowJudged }) s) := quiet_onLink_same rfl rfl rfl
  unfold judgeLink
  refine .ite (fun _ => .refl s) fun _ => .ite (fun _ => .ite (fun idle => ?_) fun _ => flag) fun _ =>
    .ite (fun armed => ?_) fun _ => flag
  · exact flag.trans (quiet_beginRun (by simp [idle, RunState.inRun]))
  · exact flag.trans (quiet_onLink_from rfl (by simp [armed, RunState.holdsSent]) fun h j =>
      absurd j (no_reply_jam h (.inr (by simp [armed]))))

theorem quiet_rejudgeLink (s : State) : Quiet s (rejudgeLink s) := by
  by_cases armed : s.link.run = .armed
  · refine quiet_onLink_from ?_ (by simp [armed, RunState.holdsSent]) fun h j => ?_
    · split <;> rfl
    · exact absurd (show s.link.jam = some .reply by split at j <;> exact j) (no_reply_jam h (.inr (by simp [armed])))
  · exact quiet_onLink_same (by simp [armed]) (by simp [armed]) (by simp [armed])

theorem quiet_countRetry (s : State) : Quiet s (countRetry s) := by
  unfold countRetry
  exact .ite (fun _ => quiet_onLink_same rfl rfl rfl) fun _ => .refl s

theorem quiet_handOn (s : State) : Quiet s (handOn s) := (quiet_judgeMode s).trans (quiet_judgeLink _)

theorem quiet_onRetryExpiry (s : State) : Quiet s (onRetryExpiry s) := by
  unfold onRetryExpiry
  exact .ite (fun h => quiet_beginRun (by simp [h.2.1, RunState.inRun])) fun _ => .refl s

theorem quiet_onLineActivity (s : State) : Quiet s (onLineActivity s) := by
  unfold onLineActivity
  split
  · exact .ite (fun _ => quiet_onLink_same rfl rfl rfl) fun _ => .refl s
  · exact .refl s

theorem quiet_onGapCommitted (s : State) : Quiet s (onGapCommitted s) := by
  unfold onGapCommitted
  split
  · exact .ite (fun _ => quiet_onLink_same rfl rfl rfl) fun _ => .refl s
  · exact .refl s

theorem quiet_onNoLine (s : State) : Quiet s (onNoLine s) := by
  unfold onNoLine
  split
  · rename_i h
    exact .ite (fun _ => quiet_runFailed (.inl (seeksGap_some h).2.2.1)) fun _ => .refl s
  · exact .refl s

/-- Marking records SENT leaves their content (R33). -/
theorem markSent_content (n : Nat) (s : State) : (markSent n s).rm.content = s.rm.content := by
  have h : ∀ l : List Record, (l.map (fun r => { r with sent := true })).map Record.content = l.map Record.content := fun l => by
    simp [Record.content, Function.comp_def]
  simp only [markSent, Collections.content, List.map_append, h]
  rw [← List.map_append, List.take_append_drop]

/-- Of the records of a link that holds no SENT one, none is SENT (R33). -/
theorem unsent_of_run {s : State} (h : s.SentFirst) (run : ¬ s.link.run.holdsSent) : ∀ r ∈ s.rm.journal, r.sent = false := by
  obtain ⟨⟨n, _, oldest, out⟩, _⟩ := h
  intro r hr
  obtain ⟨i, hi⟩ := List.mem_iff_getElem?.mp hr
  have zero : n = 0 := by by_contra pos; exact run (out (by omega))
  have notSent : ¬ r.sent = true := fun k => absurd ((oldest i r hi).mp k) (by omega)
  simpa using notSent

/-- The oldest records marked SENT, up to eight, in SEND-DATA (R154). -/
theorem sentFirst_markSent {s : State} {n : Nat} {l : Link} (h : s.SentFirst) (run : ¬ s.link.run.holdsSent) (le : n ≤ 8)
    (data : l.run = .sendData) (jam : l.jam ≠ some .reply) : State.SentFirst { s with rm := (markSent n s).rm, link := l } := by
  have unsent := unsent_of_run h run
  refine ⟨⟨min n s.rm.journal.length, by omega, fun i r hr => ?_, fun _ => .inl data⟩, fun j => absurd j jam⟩
  simp only [markSent, List.getElem?_append, List.length_map, List.length_take, List.getElem?_map, List.getElem?_drop] at hr
  split at hr
  · rename_i lt
    obtain ⟨r', _, rfl⟩ := Option.map_eq_some_iff.mp hr
    simpa using lt
  · rename_i ge
    simp only [unsent r (List.mem_of_mem_drop (List.mem_of_getElem? (List.getElem?_drop ▸ hr))), Bool.false_eq_true, false_iff]
    omega

theorem quiet_onGapWon (s : State) : Quiet s (onGapWon s) := by
  unfold onGapWon
  split
  · exact .refl s
  · rename_i h
    obtain ⟨_, run, jam, _⟩ := seeksGap_some h
    have none : ¬ s.link.run.holdsSent := by simp [run, RunState.holdsSent]
    split
    · exact quiet_upload (markSent_content ..) rfl fun h => sentFirst_markSent h none (Nat.min_le_left ..) rfl (by simp [markSent, jam])
    · exact quiet_onLink_from rfl none fun _ j => by simp [jam] at j
    · exact .refl s

theorem quiet_onCollision (s : State) : Quiet s (onCollision s) := by
  unfold onCollision
  refine .ite (fun h => ?_) fun _ => .refl s
  have run : s.link.run ≠ .sendReply := by rcases h.2 with r | r <;> simp [r]
  have cut : Quiet s (onLink (fun l => { l with attempts := l.attempts + 1, sending := jamBytes }) (unsend s)) :=
    (quiet_unsend s).trans (quiet_onLink_same rfl rfl rfl)
  refine .ite (fun _ => ?_) fun _ => cut.trans ?_
  · exact (cut.trans (quiet_runFailed (r := .collisions) (.inr run))).trans
      (quiet_onLink rfl fun h => sentFirst_onLink h id fun j => by simp at j)
  · exact quiet_onLink rfl fun _ => sentFirst_of_unsent (unsend_unsent s) fun j => by simp at j

theorem quiet_onJamEnd (s : State) : Quiet s (onJamEnd s) := by
  unfold onJamEnd
  refine .ite (fun _ => ?_) fun _ => .refl s
  split
  · exact .refl s
  · exact quiet_onLink rfl fun h => sentFirst_onLink h id fun j => by simp at j
  · rename_i jam
    refine quiet_onLink rfl fun h => sentFirst_onLink h (fun k => ?_) fun j => by simp at j
    rw [h.2 jam] at k; simp [RunState.holdsSent] at k
  · exact quiet_onLink rfl fun h => sentFirst_onLink h id fun j => by simp at j

theorem quiet_onBackoffEnd (s : State) : Quiet s (onBackoffEnd s) := by
  unfold onBackoffEnd
  split
  · exact .ite (fun _ => quiet_onLink_same rfl rfl rfl) fun _ => .refl s
  · exact .refl s

/-- The generator shifts out a bit only into its feedback: from a value other than 0 it never comes to 0 (R152). -/
theorem randomStep_ne_zero {g : Word16} (h : g ≠ 0) : randomStep g ≠ 0 := by
  intro z
  apply h
  have bit : ∀ i, (randomStep g).getLsbD i = false := fun i => by rw [z]; simp
  have low : ∀ i, i < 15 → g.getLsbD i = false := fun i hi => by
    have := bit (i + 1)
    simp only [randomStep, BitVec.getLsbD_or, BitVec.getLsbD_shiftLeft, BitVec.getLsbD_setWidth, BitVec.getLsbD_ofBool] at this
    simp only [Bool.or_eq_false_iff] at this
    simpa [show i + 1 < 16 by omega] using this.1
  have feedback := bit 0
  simp only [randomStep, BitVec.getLsbD_or, BitVec.getLsbD_shiftLeft, BitVec.getLsbD_setWidth, BitVec.getLsbD_ofBool,
    low 13 (by omega), low 12 (by omega), low 10 (by omega)] at feedback
  apply BitVec.eq_of_getLsbD_eq
  intro i hi
  rcases Nat.lt_or_ge i 15 with lt | ge
  · rw [low i lt]; simp
  · obtain rfl : i = 15 := by omega
    simpa using feedback

theorem whole_onRandomGeneratorStep (s : State) : Whole s (onRandomGeneratorStep s) := by
  unfold onRandomGeneratorStep
  split
  · exact ⟨⟨⟨rfl, id, randomStep_ne_zero, fun ⟨b, r⟩ => ⟨⟨b.events, b.scans, b.lines, b.slips⟩, r⟩,
      id, fun g => ⟨g.rm, g.commit, g.clock⟩⟩, fun d => ⟨d.owned, d.waits⟩, id, id⟩, fun _ _ => rfl, .of_content rfl,
      .of_length rfl rfl, rfl, fun _ => rfl⟩
  · exact .refl s

theorem quiet_onDataFrameSent (s : State) : Quiet s (onDataFrameSent s) := by
  unfold onDataFrameSent
  refine .ite (fun h => quiet_onLink rfl fun k => sentFirst_onLink k (fun _ => .inr rfl) fun j => ?_) fun _ => .refl s
  exact absurd j (no_reply_jam k (.inr (by simp [h.2])))

theorem quiet_onPollSent (s : State) : Quiet s (onPollSent s) := by
  unfold onPollSent
  refine .ite (fun h => quiet_onLink_from rfl (by simp [h.2, RunState.holdsSent]) fun k j => ?_) fun _ => .refl s
  exact absurd j (no_reply_jam k (.inr (by simp [h.2])))

@[simp] theorem activity_run (l : Link) : l.activity.run = l.run := by
  unfold Link.activity; split
  · split <;> rfl
  · rfl

@[simp] theorem activity_jam (l : Link) : l.activity.jam = l.jam := by
  unfold Link.activity; split
  · split <;> rfl
  · rfl

@[simp] theorem activity_random (l : Link) : l.activity.random = l.random := by
  unfold Link.activity; split
  · split <;> rfl
  · rfl

@[simp] theorem activity_frame (l : Link) : l.activity.frame = l.frame := by
  unfold Link.activity; split
  · split <;> rfl
  · rfl

theorem quiet_heardActivity (f : List Byte) (s : State) : Quiet s (heardActivity f s) := by
  unfold heardActivity
  exact .ite (fun _ => quiet_onLink_same (by simp) (by simp) (by simp)) fun _ => .refl s

/-- A frame heard changes the gap count alone. -/
theorem heardActivity_eq (f : List Byte) (s : State) :
    heardActivity f s = { s with link := (heardActivity f s).link } := by
  unfold heardActivity
  split <;> rfl

@[simp] theorem heardActivity_run (f : List Byte) (s : State) : (heardActivity f s).link.run = s.link.run := by
  unfold heardActivity; split <;> simp

@[simp] theorem heardActivity_jam (f : List Byte) (s : State) : (heardActivity f s).link.jam = s.link.jam := by
  unfold heardActivity; split <;> simp

theorem hears_jam {s : State} (h : s.hears = true) : s.link.jam = none := by
  simp only [State.hears, Bool.and_eq_true, Option.isNone_iff_eq_none] at h
  exact h.1.2

theorem acceptsBusy_run {f : List Byte} {s : State} (h : s.acceptsBusy f = true) : s.link.run = .awaitAck := by
  unfold State.acceptsBusy at h
  split at h
  · simp only [decide_eq_true_eq] at h; exact h.2.1
  · cases h

theorem quiet_onBusyFrame (f : List Byte) (s : State) : Quiet s (onBusyFrame f s) := by
  unfold onBusyFrame
  refine .ite (fun h => (quiet_heardActivity f s).trans (quiet_runFailed (.inr ?_))) fun _ => quiet_heardActivity f s
  rw [heardActivity_run, acceptsBusy_run h]; simp

theorem quiet_onReplyTimeout (s : State) : Quiet s (onReplyTimeout s) := by
  unfold onReplyTimeout
  refine .ite (fun h => ?_) fun _ => .refl s
  have run : s.link.run ≠ .sendReply := by rcases h.2.2 with r | r <;> simp [r]
  have cut : Quiet s (onLink (fun l => { l with timeouts := l.timeouts + 1, replyTimer := false }) (unsend s)) :=
    (quiet_unsend s).trans (quiet_onLink_same rfl rfl rfl)
  refine .ite (fun _ => cut.trans (quiet_runFailed (.inr run))) fun _ => cut.trans ?_
  exact quiet_onLink rfl fun k => sentFirst_of_unsent (unsend_unsent s) fun j => absurd (k.2 j) run

theorem quiet_onReplyDelayEnd (s : State) : Quiet s (onReplyDelayEnd s) := by
  unfold onReplyDelayEnd
  split
  · exact .ite (fun _ => quiet_onLink_same rfl rfl rfl) fun _ => .refl s
  · exact .refl s

theorem sendsReply_run {s : State} (h : s.sendsReply = true) :
    s.running = true ∧ s.link.run = .sendReply ∧ s.link.jam = none := by
  simp only [State.sendsReply, Bool.and_eq_true, decide_eq_true_eq] at h
  exact h.1

theorem quiet_onReplySent (s : State) : Quiet s (onReplySent s) := by
  unfold onReplySent
  refine .ite (fun h => ?_) fun _ => .refl s
  obtain ⟨_, run, jam⟩ := sendsReply_run h
  exact quiet_onLink_from rfl (by simp [run, RunState.holdsSent]) fun _ j => by simp [jam] at j

theorem quiet_onReplyCollision (s : State) : Quiet s (onReplyCollision s) := by
  unfold onReplyCollision
  refine .ite (fun h => ?_) fun _ => .refl s
  exact quiet_onLink rfl fun k => sentFirst_onLink k id fun _ => (sendsReply_run h).2.1

/-! ### The clock -/

/-- The minute after a legal one is legal, but for the last of the calendar (R61). -/
theorem advance_legal {c : Clock} (h : c.Legal) (more : c.holds = false) : c.advance.Legal := by
  obtain ⟨day, minute, second⟩ := h
  have inside : ¬ (65535 ≤ c.day ∧ 1439 ≤ c.minute) := fun h => by simp [Clock.holds, Config.lastDay, h.1, h.2] at more
  unfold Clock.advance
  split
  · exact ⟨day, by dsimp only; omega, Nat.zero_le _⟩
  · refine ⟨?_, Nat.zero_le _, Nat.zero_le _⟩
    dsimp only
    omega

theorem whole_callPurge (s : State) : Whole s (callPurge s) := by
  unfold callPurge
  split
  · exact (quiet_flags ..).whole
  · rename_i power
    exact (writes_purge s).whole (by simpa using power) rfl

theorem whole_onNewMinute (s : State) : Whole s (onNewMinute s) := by
  unfold onNewMinute
  split
  · exact .refl s
  · rename_i more
    have advanced : Quiet s { s with clock := s.clock.advance } := quiet_clock fun h => advance_legal h (by simpa using more)
    dsimp only
    split
    · have purged : Whole s (if s.clock.minute < 1439 then { s with clock := s.clock.advance }
          else callPurge { s with clock := s.clock.advance }) := by
        split
        · exact advanced.whole
        · exact advanced.thenWhole (whole_callPurge _) fun _ => id
      exact purged.quiet ((quiet_countRetry _).trans (quiet_handOn _))
    · exact advanced.whole

theorem whole_setClockTo {day minute : Nat} {s : State} (hd : day ≤ 65535) (hm : minute ≤ 1439) :
    Whole s (setClockTo day minute s) := by
  have set_ : Quiet s { s with clock := ⟨day, minute, 0, false⟩ } := quiet_clock fun _ => ⟨hd, hm, by simp⟩
  unfold setClockTo
  refine Whole.quiet ?_ (quiet_handOn _)
  split
  · exact set_.whole
  · exact set_.thenWhole (whole_callPurge _) fun _ => id

theorem number_lt (bs : List Byte) : number bs < 256 ^ bs.length := by
  induction bs using List.reverseRecOn with
  | nil => simp [number]
  | append_singleton bs b ih =>
    have hb := b.isLt
    simp only [number, List.foldl_append, List.foldl_cons, List.foldl_nil, List.length_append, List.length_cons, List.length_nil,
      pow_succ] at *
    norm_num at hb ⊢
    omega

theorem numAt_lt (bs : List Byte) (i : Nat) : numAt bs i < 65536 := by
  refine (number_lt _).trans_le ((Nat.pow_le_pow_right (by norm_num) (?_ : _ ≤ 2)).trans (by norm_num))
  simp [slice]

theorem whole_takeCentralTime {day minute : Nat} {s : State} (hd : day ≤ 65535) : Whole s (takeCentralTime day minute s) := by
  unfold takeCentralTime
  split
  · exact .refl s
  · split
    · exact whole_setClockTo hd (by omega)
    · exact .refl s

theorem acceptedEnd_some {f : List Byte} {s : State} {day minute : Nat} (h : s.acceptedEnd f = some (day, minute)) :
    s.hears = true ∧ s.link.run = .awaitUpdate ∧ day ≤ 65535 ∧ minute ≤ 65535 := by
  unfold State.acceptedEnd at h
  split at h
  · split at h
    · rename_i c
      cases h
      exact ⟨c.1, c.2.1, Nat.le_of_lt_succ (numAt_lt ..), Nat.le_of_lt_succ (numAt_lt ..)⟩
    · cases h
  · cases h

/-- An instant handed on leaves the link's run in progress as it is (R162). -/
theorem judgeLink_inRun {s : State} (h : s.link.run.inRun = true) :
    judgeLink s = onLink (fun l => { l with windowOpen := s.windowJudged }) s := by
  have notIdle : s.link.run ≠ .idle := fun e => by rw [e] at h; cases h
  have notArmed : s.link.run ≠ .armed := fun e => by rw [e] at h; cases h
  unfold judgeLink
  dsimp only
  by_cases e : s.windowJudged = s.link.windowOpen
  · rw [if_pos e, onLink, e]
  · simp [e, notIdle, notArmed]

theorem handOn_inRun {s : State} (h : s.link.run.inRun = true) : (handOn s).link = { s.link with windowOpen := (handOn s).link.windowOpen } := by
  have e : (judgeMode s).link = s.link := by rw [judgeMode_frame]
  unfold handOn
  rw [judgeLink_inRun (by rw [e]; exact h), onLink_link, e]

theorem setClockTo_link {day minute : Nat} {s : State} (h : s.link.run.inRun = true) :
    (setClockTo day minute s).link = { s.link with windowOpen := (setClockTo day minute s).link.windowOpen } := by
  have purged : ∀ t : State, (callPurge t).link = t.link := fun t => by unfold callPurge; split <;> rfl
  unfold setClockTo
  dsimp only
  split
  · exact handOn_inRun h
  · have := handOn_inRun (s := callPurge { s with clock := ⟨day, minute, 0, false⟩ }) (by rw [purged]; exact h)
    rwa [purged] at this

theorem takeCentralTime_run {day minute : Nat} {s : State} (h : s.link.run.inRun = true) :
    (takeCentralTime day minute s).link.run = s.link.run := by
  unfold takeCentralTime
  split
  · rfl
  · split
    · rw [setClockTo_link h]
    · rfl

theorem quiet_runDone {s : State} (run : s.link.run = .awaitUpdate) : Quiet s (runDone s) := by
  have told := postStaff_same { kind := .uploadDone, value := some (.counts s.link.confirmed s.link.applied) } s
  refine (quiet_postStaff ..).trans (quiet_onLink_from rfl ?_ fun h j => absurd j (no_reply_jam h (.inr ?_)))
  · rw [told.eq]; simp [run, RunState.holdsSent]
  · rw [told.eq]; simp [run]

theorem whole_onEndFrame (f : List Byte) (s : State) : Whole s (onEndFrame f s) := by
  have heard := quiet_heardActivity f s
  unfold onEndFrame
  dsimp only
  split
  · rename_i h
    obtain ⟨_, run, hd, _⟩ := acceptedEnd_some h
    refine (heard.thenWhole (whole_takeCentralTime hd) fun st => by rw [heardActivity_eq]; exact id).quiet (quiet_runDone ?_)
    rw [takeCentralTime_run (by rw [heardActivity_run, run]; rfl), heardActivity_run, run]
  · exact heard.whole

/-! ### Central updates -/

/-- What an update entry keeps: it is a part of a step that adds no record. -/
theorem writes_applyEntry {e : UpdateEntry} {s t : State} (h : applyEntry e s = some t) :
    Writes s t ∧ t.rm.journal = s.rm.journal := by
  unfold applyEntry at h
  repeat' split at h
  · unfold applyBlockAdd at h
    repeat' split at h
    · cases h
    · rename_i b there; cases h
      refine ⟨writes_putBlock fun none => ?_, putBlock_journal ..⟩
      have key : b.borrower.toNat = e.key.toNat := (lookupBy_some _ there).2
      unfold State.blockOf at none there
      rw [key, there] at none
      cases none
    · rename_i room; cases h; exact ⟨writes_putBlock fun _ => room, putBlock_journal ..⟩
    · cases h
  · unfold applyBlockRemove at h
    split at h <;> cases h
    exact ⟨writes_removeBlockOf .., removeBlockOf_journal ..⟩
  · unfold applyFlagSet at h
    split at h
    · cases h
    · split at h
      · cases h
      · dsimp only at h
        split at h
        · cases h
        · rename_i bad
          split at h
          · cases h
          · rename_i full
            cases h
            refine ⟨writes_putFlag (fun none => ?_) ?_, putFlag_journal ..⟩
            · simp only [Config.flagsMax, not_and, Nat.not_le] at full
              exact full (by rw [none]; rfl)
            · dsimp only
              split
              · rename_i r
                have some_ : e.second.isSome = true := by
                  cases k : e.second with
                  | none => exact absurd ⟨r, by rw [k]; rfl⟩ bad
                  | some _ => rfl
                simp [some_, r]
              · rename_i r; simp [r]
  · unfold applyFlagClear at h
    split at h <;> cases h
    exact ⟨writes_removeFlagOf .., removeFlagOf_journal ..⟩
  · unfold applyLoanClear at h
    split at h <;> cases h
    · split
      · exact ⟨writes_removeLoan .., removeLoan_journal ..⟩
      · exact ⟨.refl s, rfl⟩
    · exact ⟨.refl s, rfl⟩
  · unfold applyClosureAdd at h
    split at h
    · cases h; exact ⟨.refl s, rfl⟩
    · rename_i new
      split at h <;> cases h
      rename_i room
      exact ⟨writes_insertClosure (by simp at new ⊢; exact new.1) room, rfl⟩
  · cases h; exact ⟨writes_dropClosure .., rfl⟩
  · cases h

theorem writes_applyEntries (es : List UpdateEntry) (s : State) :
    Writes s (applyEntries es s).1 ∧ (applyEntries es s).1.rm.journal = s.rm.journal := by
  induction es generalizing s with
  | nil => exact ⟨.refl s, rfl⟩
  | cons e es ih =>
    unfold applyEntries
    cases h : applyEntry e s with
    | none => exact ⟨.refl s, rfl⟩
    | some t =>
      obtain ⟨w, j⟩ := writes_applyEntry h
      exact ⟨w.trans (ih t).1, (ih t).2.trans j⟩

theorem quiet_reportDiscarded (n : Nat) (s : State) : Quiet s (reportDiscarded n s) := by
  unfold reportDiscarded
  exact .ite (fun _ => .refl s) fun _ => quiet_postStaff ..

theorem writes_applyFrame (r : RxFrame) (s : State) :
    Writes s (applyFrame r s).1 ∧ (applyFrame r s).1.rm.journal = s.rm.journal := by
  obtain ⟨w, j⟩ := writes_applyEntries (entriesOf r.payload) s
  refine ⟨w.trans (quiet_reportDiscarded ..).writes, ?_⟩
  have : ∀ n (t : State), (reportDiscarded n t).rm = t.rm := fun n t => by
    unfold reportDiscarded; split
    · rfl
    · rw [(postStaff_same ..).eq]
  exact (congrArg Collections.journal (this _ _)).trans j

theorem writes_last (s : State) (run : Option (Nat × Nat)) (broadcast : Option Nat) :
    Writes s { s with rm := { s.rm with lastRun := run, lastBroadcast := broadcast } } :=
  writes_rm rfl fun g => good_last g.rm ..

theorem SameButRecords.slot {s t : State} (h : SameButRecords s t) (st : Station) : t.slot st = s.slot st := by rw [h]; rfl

theorem whole_onBroadcastUpdate (f : List Byte) (s : State) : Whole s (onBroadcastUpdate f s) := by
  have heard := quiet_heardActivity f s
  unfold onBroadcastUpdate
  dsimp only
  split
  · rename_i r _
    split
    · exact heard.whole
    · rename_i act
      obtain ⟨w, j⟩ := writes_applyFrame r (heardActivity f s)
      refine (heard.writes.trans (w.trans (writes_last _ _ _))).whole (by simpa using fun p => act (.inl p)) ?_
      dsimp only
      rw [j, heardActivity_eq]
  · exact heard.whole

theorem quiet_prepareReply {seq count : Nat} {f : Link → Link} {s : State} (run : s.link.run = .awaitUpdate)
    (random : (f s.link).random = s.link.random) : Quiet s (onLink (fun l => prepareReply seq count (f l)) s) :=
  quiet_onLink_from random (by simp [run, RunState.holdsSent]) fun _ _ => rfl

theorem acceptedUpdate_some {f : List Byte} {s : State} {r : RxFrame} (h : s.acceptedUpdate f = some r) :
    goodFrame f = some r ∧ s.hears = true ∧ s.link.run = .awaitUpdate := by
  simp only [State.acceptedUpdate, Option.filter_eq_some_iff, Bool.and_eq_true, beq_iff_eq] at h
  exact ⟨h.1, h.2.1.1.1, h.2.1.1.2⟩

theorem applyFrame_same (r : RxFrame) (s : State) : SameButRecords s (applyFrame r s).1 := by
  have entries : ∀ (es : List UpdateEntry) (t : State), SameButRecords t (applyEntries es t).1 := fun es => by
    induction es with
    | nil => exact .refl
    | cons e es ih =>
      intro t
      unfold applyEntries
      cases h : applyEntry e t with
      | none => exact .refl t
      | some u => exact (applyEntry_same h).trans (ih u)
  refine (entries (entriesOf r.payload) s).trans ?_
  unfold applyFrame reportDiscarded
  dsimp only
  split
  · exact .refl _
  · exact (postStaff_same ..).records

theorem whole_runUpdate {r : RxFrame} {s : State} (power : s.pfail = false) (run : s.link.run = .awaitUpdate) :
    Whole s (runUpdate r s) := by
  unfold runUpdate
  split
  · exact (quiet_prepareReply (f := id) run rfl).whole
  · obtain ⟨w, j⟩ := writes_applyFrame r s
    have same := applyFrame_same r s
    have applied : Whole s { (applyFrame r s).1 with rm := { (applyFrame r s).1.rm with lastRun := some (r.seq, (applyFrame r s).2) } } :=
      (w.trans (writes_last _ _ _)).whole power (by dsimp only; rw [j])
    refine applied.quiet (quiet_prepareReply (f := fun l => { l with applied := min 65535 (l.applied + (applyFrame r s).2) }) ?_ rfl)
    dsimp only
    rw [same]; exact run

theorem whole_onUpdateFrame (f : List Byte) (s : State) : Whole s (onUpdateFrame f s) := by
  have heard := quiet_heardActivity f s
  unfold onUpdateFrame
  dsimp only
  split
  · rename_i h
    split
    · exact heard.whole
    · rename_i power
      refine heard.thenWhole (whole_runUpdate ?_ ?_) fun st => by rw [heardActivity_eq]; exact id
      · rw [heard.pfail]; simpa using power
      · rw [heardActivity_run]; exact (acceptedUpdate_some h).2.2
  · exact heard.whole

end Sys2Proof.Machine
end

section
/-! PROOF. What a confirmation and the steps of a transaction keep (R34, R91, R93; R110 to R120), with the due instant that a loan takes. -/

namespace Sys2Proof.Machine

/-! ### The balances folded afresh (R91) -/

/-- A borrower's entry taken afresh from the records, or dropped. -/
def refoldBalances (b : Code) (j : List Record) (l : List Balance) : List Balance :=
  if j.any (Record.isTrackedOf b) then l.map (fun x => if x.borrower = b then { x with amount := foldBalance b j } else x)
  else l.filter (fun x => x.borrower != b)

theorem refold_eq (b : Code) (s : State) :
    refold b s = { s with rm := { s.rm with balances := refoldBalances b s.rm.journal s.rm.balances } } := by
  unfold refold refoldBalances
  by_cases h : s.rm.journal.any (Record.isTrackedOf b) = true
  · rw [if_pos h, if_pos h]
  · rw [if_neg h, if_neg h]

theorem refolds_eq (bs : List Code) (s : State) : bs.foldl (fun t b => refold b t) s =
    { s with rm := { s.rm with balances := bs.foldl (fun l b => refoldBalances b s.rm.journal l) s.rm.balances } } := by
  induction bs generalizing s with
  | nil => rfl
  | cons b bs ih => rw [List.foldl_cons, ih, refold_eq]; rfl

/-- The entry that the records call for (R89). -/
def balanceCalledFor (b : Code) (j : List Record) : Option Balance :=
  if ∃ r ∈ j, r.isTrackedOf b = true then some ⟨b, foldBalance b j⟩ else none

theorem find_refoldBalances_same {b : Code} {j : List Record} {l : List Balance}
    (there : (∃ r ∈ j, r.isTrackedOf b = true) → (l.find? (fun x => x.borrower == b)).isSome = true) :
    (refoldBalances b j l).find? (fun x => x.borrower == b) = balanceCalledFor b j := by
  unfold refoldBalances balanceCalledFor
  simp only [List.any_eq_true]
  split
  · rename_i tracked
    obtain ⟨x, hx⟩ := Option.isSome_iff_exists.mp (there tracked)
    rw [find_map_borrower b b (fun x => { x with amount := foldBalance b j }) fun _ => rfl, hx]
    simp [find_balance_borrower hx]
  · exact List.find?_eq_none.mpr fun x hx => by simpa using (List.mem_filter.mp hx).2

theorem find_refoldBalances_other {b b' : Code} (ne : b' ≠ b) (j : List Record) (l : List Balance) :
    (refoldBalances b j l).find? (fun x => x.borrower == b') = l.find? (fun x => x.borrower == b') := by
  unfold refoldBalances
  split
  · rw [find_map_borrower b b' (fun x => { x with amount := foldBalance b j }) fun _ => rfl]
    simp [ne]
  · rw [List.find?_filter]
    congr 1
    funext x
    by_cases h : x.borrower = b'
    · simp [h, ne]
    · simp [h]

/-- Each borrower's entry is that of the records, once those whose entries are not yet so have been taken afresh. -/
theorem find_refolds (j : List Record) (bs : List Code) (l : List Balance)
    (h : ∀ b, l.find? (fun x => x.borrower == b) = balanceCalledFor b j ∨
      b ∈ bs ∧ ((∃ r ∈ j, r.isTrackedOf b = true) → (l.find? (fun x => x.borrower == b)).isSome = true)) (b : Code) :
    (bs.foldl (fun l b => refoldBalances b j l) l).find? (fun x => x.borrower == b) = balanceCalledFor b j := by
  induction bs generalizing l with
  | nil => simpa using h b
  | cons a bs ih =>
    refine ih _ fun c => ?_
    by_cases e : c = a
    · subst e
      refine .inl (find_refoldBalances_same fun tracked => ?_)
      rcases h c with k | k
      · rw [k, balanceCalledFor, if_pos tracked]; rfl
      · exact k.2 tracked
    · rw [find_refoldBalances_other e]
      exact (h c).imp id fun k => ⟨(List.mem_cons.mp k.1).resolve_left e, k.2⟩

theorem canonical_refoldBalances (b : Code) (j : List Record) (l : List Balance)
    (h : (l.map Balance.borrower).Nodup ∧ l.length ≤ 256) :
    ((refoldBalances b j l).map Balance.borrower).Nodup ∧ (refoldBalances b j l).length ≤ 256 := by
  unfold refoldBalances
  split
  · have : ∀ x : Balance, (if x.borrower = b then { x with amount := foldBalance b j } else x).borrower = x.borrower :=
      fun x => by split <;> rfl
    simpa [List.map_map, Function.comp_def, this] using h
  · exact ⟨h.1.sublist (List.filter_sublist.map _), (List.length_filter_le ..).trans h.2⟩

theorem canonical_refolds (j : List Record) (bs : List Code) (l : List Balance)
    (h : (l.map Balance.borrower).Nodup ∧ l.length ≤ 256) :
    ((bs.foldl (fun l b => refoldBalances b j l) l).map Balance.borrower).Nodup ∧
      (bs.foldl (fun l b => refoldBalances b j l) l).length ≤ 256 := by
  induction bs generalizing l with
  | nil => exact h
  | cons b bs ih => exact ih _ (canonical_refoldBalances b j l h)

/-! ### A confirmation (R34, R91, R93) -/

theorem mem_moneyBorrowers {l : List Record} {b : Code} : b ∈ moneyBorrowers l ↔ ∃ r ∈ l, r.isMoneyOf b = true := by
  simp only [moneyBorrowers, List.mem_reverse, List.mem_dedup, List.mem_filterMap, Record.isMoneyOf, Bool.and_eq_true,
    Bool.or_eq_true, beq_iff_eq]
  refine exists_congr fun r => and_congr_right fun _ => ?_
  by_cases h : r.kind = .fine ∨ r.kind = .payment <;> simp [h]

theorem length_moneyBorrowers (l : List Record) : (moneyBorrowers l).length ≤ l.length := by
  unfold moneyBorrowers
  rw [List.length_reverse]
  refine (List.dedup_sublist _).length_le.trans ?_
  rw [List.length_reverse]
  exact List.length_filterMap_le ..

/-- The state of a confirmation before its threshold tests: the records dropped, the rest PENDING, the balances folded afresh. -/
def refolded (m : Nat) (s : State) : State :=
  (moneyBorrowers (s.rm.journal.take m)).foldl (fun t b => refold b t) (unsend (dropRecords m s))

/-- The state of a confirmation after its threshold tests. -/
def tested (m : Nat) (s : State) : State :=
  (moneyBorrowers (s.rm.journal.take m)).foldl (fun t b => runTest none .A b t) (refolded m s)

theorem confirm_eq (m : Nat) (s : State) : confirm m s = rearm (highWater (tested m s)) := rfl

theorem refolded_eq (m : Nat) (s : State) : refolded m s =
    moveSearches .journal (fun pos => pos - m) { s with rm := { s.rm with
      journal := (s.rm.journal.drop m).map Record.content,
      balances := (moneyBorrowers (s.rm.journal.take m)).foldl
        (fun l b => refoldBalances b ((s.rm.journal.drop m).map Record.content) l) s.rm.balances } } := by
  unfold refolded
  rw [refolds_eq]
  rfl

theorem foldBalance_drop {b : Code} {l : List Record} {m : Nat} (h : ¬ ∃ r ∈ l.take m, r.isTrackedOf b = true) :
    foldBalance b (l.drop m) = foldBalance b l := by
  have none : (l.take m).filter (Record.isTrackedOf b) = [] := List.filter_eq_nil_iff.mpr fun r hr ht => h ⟨r, hr, ht⟩
  conv_rhs => rw [← List.take_append_drop m l]
  rw [foldBalance, foldBalance, List.filter_append, none, List.nil_append]

theorem tracked_isMoney {b : Code} {r : Record} (h : r.isTrackedOf b = true) : r.isMoneyOf b = true := by
  simp only [Record.isTrackedOf, Bool.and_eq_true] at h; exact h.1

/-- The entries of the BALANCE TABLE agree with the records that remain (R91). -/
theorem balances_refolded {s : State} (sound : s.rm.Sound) (m : Nat) (b : Code) :
    ((moneyBorrowers (s.rm.journal.take m)).foldl
      (fun l b => refoldBalances b ((s.rm.journal.drop m).map Record.content) l) s.rm.balances).find?
        (fun x => x.borrower == b) = balanceCalledFor b ((s.rm.journal.drop m).map Record.content) := by
  refine find_refolds _ _ _ (fun c => ?_) b
  have before := sound.balances c
  have split_ : (∃ r ∈ s.rm.journal, r.isTrackedOf c = true) ↔
      (∃ r ∈ s.rm.journal.take m, r.isTrackedOf c = true) ∨ ∃ r ∈ s.rm.journal.drop m, r.isTrackedOf c = true := by
    conv_lhs => rw [← List.take_append_drop m s.rm.journal]
    simp only [List.mem_append, or_and_right, exists_or]
  by_cases mem : c ∈ moneyBorrowers (s.rm.journal.take m)
  · refine .inr ⟨mem, fun tracked => ?_⟩
    rw [exists_tracked_content] at tracked
    rw [before, if_pos (split_.mpr (.inr tracked))]; rfl
  · have none : ¬ ∃ r ∈ s.rm.journal.take m, r.isTrackedOf c = true := fun ⟨r, hr, ht⟩ =>
      mem (mem_moneyBorrowers.mpr ⟨r, hr, tracked_isMoney ht⟩)
    left
    simp only [none, false_or] at split_
    rw [before, balanceCalledFor]
    simp only [split_, exists_tracked_content, foldBalance_content, foldBalance_drop none]

theorem good_refolded {s : State} (h : s.rm.Good) (m : Nat) : (refolded m s).rm.Good := by
  rw [refolded_eq]
  refine ⟨⟨?_, h.canonical.loans, h.canonical.blocks, h.canonical.flags, canonical_refolds _ _ _ h.canonical.balances,
    h.canonical.closures⟩, ⟨h.numbered.1, fun i r hr => ?_⟩, ⟨balances_refolded h.sound m, h.sound.loans, h.sound.flags⟩⟩
  · have := h.canonical.journal
    simp only [moveSearches, List.length_map, List.length_drop]; omega
  · simp only [moveSearches, List.getElem?_map, List.getElem?_drop, Option.map_eq_some_iff] at hr
    obtain ⟨r', hr', rfl⟩ := hr
    have num := h.numbered.2 (m + i) r' hr'
    have lt := (List.getElem?_eq_some_iff.mp hr').1
    simp only [moveSearches, List.length_map, List.length_drop, Record.content]
    rw [show s.rm.journal.length - m - i = s.rm.journal.length - (m + i) by omega]
    exact num

theorem writes_runTests (bs : List Code) (s : State) (room : s.rm.journal.length + bs.length ≤ 4096) :
    Writes s (bs.foldl (fun t b => runTest none .A b t) s) := by
  induction bs generalizing s with
  | nil => exact .refl s
  | cons b bs ih =>
    rw [List.length_cons] at room
    have one := testRecords_le s b
    have len := runTest_length_le none .A b s
    exact (writes_runTest (by omega)).trans (ih _ (by omega))

/-- No record is SENT. -/
def State.Unsent (s : State) : Prop := ∀ r ∈ s.rm.journal, r.sent = false

theorem unsent_writeRecord {e : Entry} {s : State} (h : s.Unsent) : (writeRecord e s).Unsent := by
  intro r hr
  simp only [writeRecord_eq, List.mem_append, List.mem_singleton] at hr
  rcases hr with hr | rfl
  · exact h r hr
  · rfl

theorem unsent_runTest {st : Option Station} {p : Port} {b : Code} {s : State} (h : s.Unsent) : (runTest st p b s).Unsent := by
  unfold runTest
  split
  · exact h
  · unfold requestBlock
    split
    · exact unsent_writeRecord (by unfold State.Unsent; rw [putBlock_journal]; exact h)
    · unfold State.Unsent; rw [(postStaff_same ..).eq]; exact h
  · exact unsent_writeRecord (by unfold State.Unsent; rw [removeBlockOf_journal]; exact h)

theorem unsent_refolded (m : Nat) (s : State) : (refolded m s).Unsent := by
  rw [refolded_eq]
  intro r hr
  simp only [moveSearches, List.mem_map] at hr
  obtain ⟨r', _, rfl⟩ := hr
  rfl

theorem unsent_tested (m : Nat) (s : State) : (tested m s).Unsent := by
  have h : ∀ (bs : List Code) (t : State), t.Unsent → (bs.foldl (fun t b => runTest none .A b t) t).Unsent := fun bs => by
    induction bs with
    | nil => exact fun _ => id
    | cons b bs ih => exact fun t ht => ih _ (unsent_runTest ht)
  exact h _ _ (unsent_refolded m s)

theorem PortKept.trans {q x y : PortState} (h : PortKept q x) (k : PortKept x y) : PortKept q y :=
  ⟨k.events ∘ h.events, k.result ∘ h.result⟩

/-- The ports, as far as their queues and results go. -/
def PortsKept (s t : State) : Prop := ∀ p, PortKept (s.port p) (t.port p)

theorem PortsKept.refl (s : State) : PortsKept s s := fun _ => .refl _
theorem PortsKept.trans {s t u : State} (h : PortsKept s t) (k : PortsKept t u) : PortsKept s u := fun p => (h p).trans (k p)

theorem portsKept_post (p : Port) (e : Event) (s : State) : PortsKept s (post p e s) := fun q => by
  by_cases h : q = p
  · subst h; rw [post_port]; exact portKept_offer ..
  · rw [post, State.port_putPort_other _ _ h]; exact .refl _

theorem portsKept_postStaff (e : Event) (s : State) : PortsKept s (postStaff e s) := by
  have h : ∀ (p : Port) (t : State), PortsKept t (postIfStaff p e t) := fun p t => by
    unfold postIfStaff
    split
    · exact portsKept_post p e t
    · exact .refl _
  exact (h .A s).trans (h .B _)

theorem portsKept_moveSearches (t : Table) (f : Nat → Nat) (s : State) : PortsKept s (moveSearches t f s) := fun p => by
  cases p <;> exact ⟨id, id⟩

theorem portsKept_runTest (st : Option Station) (p : Port) (b : Code) (s : State) : PortsKept s (runTest st p b s) := by
  unfold runTest
  split
  · exact .refl s
  · unfold requestBlock putBlock
    repeat' split
    · exact .refl s
    · exact portsKept_moveSearches .blocks _ s
    · exact portsKept_postStaff _ s
  · unfold liftBlock removeBlockOf
    split
    · exact .refl s
    · exact portsKept_moveSearches .blocks _ s

theorem portsKept_highWater (s : State) : PortsKept s (highWater s) := by
  unfold highWater
  split
  · exact portsKept_postStaff _ s
  · exact .refl s

theorem portsKept_confirm (m : Nat) (s : State) : PortsKept s (confirm m s) := by
  have tests : ∀ (bs : List Code) (t : State), PortsKept t (bs.foldl (fun t b => runTest none .A b t) t) := fun bs t =>
    foldl_keeps (P := PortsKept) .refl (fun _ _ _ => .trans) _ (fun u b => portsKept_runTest none .A b u) bs t
  have start : PortsKept s (refolded m s) := by
    rw [refolded_eq]; exact portsKept_moveSearches .journal _ s
  have ended : PortsKept s (highWater (tested m s)) :=
    (start.trans (tests (moneyBorrowers (s.rm.journal.take m)) (refolded m s))).trans (portsKept_highWater (tested m s))
  rw [confirm_eq]
  unfold rearm
  split
  · exact ended
  · exact ended

theorem confirm_rm (m : Nat) (s : State) : (confirm m s).rm = (tested m s).rm := by
  rw [confirm_eq]
  unfold rearm
  split <;> simp

theorem unsent_confirm (m : Nat) (s : State) : (confirm m s).Unsent := by
  unfold State.Unsent; rw [confirm_rm]; exact unsent_tested m s

/-- A confirmation has room for the records of its tests: each of them follows a record confirmed (R34, R35). -/
theorem good_confirm {s : State} (h : s.rm.Good) (commit : ∀ image, s.commit = .complete image → image.Good) (clock : s.clock.Legal)
    (m : Nat) : (confirm m s).rm.Good := by
  have room : (refolded m s).rm.journal.length + (moneyBorrowers (s.rm.journal.take m)).length ≤ 4096 := by
    have := h.canonical.journal
    have := length_moneyBorrowers (s.rm.journal.take m)
    rw [refolded_eq]
    simp only [moveSearches, List.length_map, List.length_drop, List.length_take] at *
    omega
  have frame : (refolded m s).commit = s.commit ∧ (refolded m s).clock = s.clock := by rw [refolded_eq]; exact ⟨rfl, rfl⟩
  have start : (refolded m s).Good := ⟨good_refolded h m, by rw [frame.1]; exact commit, by rw [frame.2]; exact clock⟩
  rw [confirm_rm]
  exact ((writes_runTests _ _ room).records start).rm

theorem kept_confirm (m : Nat) (s : State) : Kept s (confirm m s) := by
  have ports := portsKept_confirm m s
  have unsent := unsent_confirm m s
  have good := fun g : s.Good => good_confirm g.rm g.commit g.clock m
  rw [confirm_frame] at *
  exact {
    pending := rfl
    clock := id
    random := id
    queues := fun ⟨b, r⟩ => ⟨⟨fun p => (ports p).events (b.events p), b.scans, b.lines, b.slips⟩, fun p => (ports p).result (r p)⟩
    sent := fun h => sentFirst_of_unsent unsent h.2
    records := fun g => ⟨good g, g.commit, g.clock⟩
    desk := fun d => ⟨d.owned, d.waits⟩
    night := id
    settings := id }

theorem acceptedAck_some {f : List Byte} {s : State} {k : Nat} (h : s.acceptedAck f = some k) :
    s.hears = true ∧ s.link.run = .awaitAck ∧ k ≤ 8 := by
  unfold State.acceptedAck at h
  split at h
  · split at h
    · rename_i c
      cases h
      exact ⟨c.1, c.2.1, c.2.2.2.2.2.2⟩
    · cases h
  · cases h

theorem confirm_link (m : Nat) (s : State) : (confirm m s).link = s.link := by rw [confirm_frame]

theorem kept_onAckFrame (f : List Byte) (s : State) : Kept s (onAckFrame f s) := by
  have heard := (quiet_heardActivity f s).whole.toKept
  unfold onAckFrame
  dsimp only
  split
  · rename_i accepted _
    split
    · exact heard
    · refine (heard.trans (kept_confirm _ _)).trans (quiet_onLink (by exact rfl) fun _ => sentFirst_of_unsent ?_ fun j => ?_).whole.toKept
      · exact unsent_confirm _ _
      · simp only [onLink_link, confirm_link, heardActivity_jam, hears_jam (acceptedAck_some accepted).1] at j
        exact absurd j (by simp)
  · exact heard

/-! ### The due instant is later than the loan's (R24, R77 to R81) -/

theorem le_searchForward (isOpen : Nat → Bool) (n raw : Nat) : raw ≤ searchForward isOpen n raw := by
  induction n generalizing raw with
  | zero => exact le_rfl
  | succ n ih =>
    unfold searchForward
    split
    · exact le_rfl
    · exact (Nat.le_succ raw).trans (ih _)

theorem le_searchBack (isOpen : Nat → Bool) {low : Nat} (n : Nat) {raw : Nat} (h : low ≤ raw) :
    low ≤ searchBack isOpen low n raw := by
  induction n generalizing raw with
  | zero => exact h
  | succ n ih =>
    unfold searchBack
    split
    · exact h
    · rename_i stop
      simp only [Bool.or_eq_true, decide_eq_true_eq, not_or] at stop
      exact ih (by omega)

theorem nextOpenDay_lt {isOpen : Nat → Bool} {last n day d : Nat} (h : nextOpenDay isOpen last n day = some d) : day < d := by
  induction n generalizing day with
  | zero => cases h
  | succ n ih =>
    unfold nextOpenDay at h
    split at h
    · cases h
    · split at h
      · cases h; omega
      · have := ih h; omega

theorem countHours_later {cfg : Configuration} {isOpen : Nat → Bool} {last n day c left d m : Nat}
    (h : countHours cfg isOpen last n day c left = some (d, m)) : d = day ∧ m = c + left ∨ day < d := by
  induction n generalizing day c left with
  | zero => cases h
  | succ n ih =>
    unfold countHours at h
    dsimp only at h
    split at h
    · cases h; exact .inl ⟨rfl, rfl⟩
    · split at h
      · cases h
      · rename_i day' next
        have lt := nextOpenDay_lt next
        rcases ih h with k | k <;> omega

theorem dueDay_later {isOpen : Nat → Bool} {d period day : Nat} {limit minute : Option Nat} {facts : DueFacts} (hd : d ≤ 65535)
    (pos : 0 < period) (h : dueDay isOpen d period limit = .due day minute facts) : d < day ∧ minute = none := by
  unfold dueDay at h
  split at h
  · cases h
  · rename_i notLast
    simp only [DueOutcome.due.injEq] at h
    obtain ⟨hday, hmin, _⟩ := h
    refine ⟨?_, hmin.symm⟩
    rw [← hday]
    split
    · rename_i l clamp
      have lt := (Option.filter_eq_some_iff.mp clamp).2
      simp only [Bool.and_eq_true, decide_eq_true_eq] at lt
      have := le_searchBack isOpen (low := d + 1) 14 (raw := l) lt.1
      omega
    · have := le_searchForward isOpen 14 (min (d + period) Config.lastDay)
      have : Config.lastDay = 65535 := rfl
      omega

theorem hourStart_later {cfg : Configuration} {isOpen : Nat → Bool} {d m day c : Nat} (h : hourStart cfg isOpen d m = some (day, c)) :
    day = d ∧ m ≤ c ∨ d < day := by
  unfold hourStart at h
  split at h
  · cases h; exact .inl ⟨rfl, Nat.le_max_left ..⟩
  · obtain ⟨d', next, e⟩ := Option.map_eq_some_iff.mp h
    cases e
    exact .inr (nextOpenDay_lt next)

theorem dueHour_later {cfg : Configuration} {isOpen : Nat → Bool} {d m period day : Nat} {minute : Option Nat} {facts : DueFacts}
    (hm : m ≤ 1439) (pos : 0 < period) (h : dueHour cfg isOpen d m period = .due day minute facts) :
    d * 1440 + m < day * 1440 + minute.getD 1439 := by
  unfold dueHour at h
  split at h
  · rename_i day' minute' found
    cases h
    obtain ⟨⟨sd, sc⟩, start, count⟩ := Option.bind_eq_some_iff.mp found
    simp only [Option.getD_some]
    rcases hourStart_later start with a | a <;> rcases countHours_later count with b | b <;> omega
  · dsimp only at h
    split at h
    · cases h
    · cases h
      simp only [Option.getD_some]
      omega

theorem computeDue_later {cfg : Configuration} {closures : List Nat} {d m : Nat} {ic : Fin 16} {bc : Fin 8} {day : Nat}
    {minute : Option Nat} {facts : DueFacts} (hd : d ≤ 65535) (hm : m ≤ 1439)
    (h : computeDue cfg closures d m ic bc = .due day minute facts) : d * 1440 + m < day * 1440 + minute.getD 1439 := by
  unfold computeDue at h
  dsimp only at h
  split at h
  · cases h
  · rename_i period
    split at h
    · obtain ⟨lt, rfl⟩ := dueDay_later hd (Nat.pos_of_ne_zero period) h
      simp only [Option.getD_none]; omega
    · exact dueHour_later hm (Nat.pos_of_ne_zero period) h

/-! ### The checkout step (R113 to R116) -/

/-- What the checks of a checkout that passes have found (R113). -/
structure CheckoutPassed (st : Station) (item patron : Code) (plan : CheckoutPlan) (s : State) : Prop where
  system : systemOf item = s.config.system
  allowed : (s.slot st).overridden = true ∨ s.isBlocked patron = false
  flag : flagCheck (s.flagOf item) patron = .ok plan.clear
  period : periodOf s.config (itemClassOf item) ((s.slot st).patronClass.getD (borrowerClassOf patron)) ≠ 0
  loan : loanCheck (s.loanOf item) patron = .ok plan.implicit
  limit : s.underLimit patron ((s.slot st).patronClass.getD (borrowerClassOf patron)) = true
  lines : (s.slot st).draft.length < 32
  due : ∃ facts, s.dueAt s.clock.day s.clock.minute (itemClassOf item) ((s.slot st).patronClass.getD (borrowerClassOf patron)) =
    .due plan.dueDay plan.dueMinute facts
  room : s.rm.journal.length + plan.records ≤ 4096

theorem checkoutChecks_pass {st : Station} {item patron : Code} {plan : CheckoutPlan} {s : State}
    (h : checkoutChecks st item patron s = .pass plan) : CheckoutPassed st item patron plan s := by
  unfold checkoutChecks at h
  dsimp only at h
  split at h
  · cases h
  rename_i system
  split at h
  · cases h
  rename_i allowed
  split at h
  · cases h
  rename_i clear flag
  split at h
  · cases h
  rename_i period
  split at h
  · cases h
  rename_i implicit loan
  split at h
  · cases h
  rename_i limit
  split at h
  · cases h
  rename_i lines
  split at h
  · cases h
  · cases h
  · rename_i day minute facts due
    split at h
    · rename_i room
      cases h
      exact ⟨not_not.mp system, by
        by_cases o : (s.slot st).overridden = true
        · exact .inl o
        · exact .inr (by simpa [o] using allowed), flag, period, loan, by simpa using limit,
        Nat.not_le.mp lines, ⟨facts, due⟩, of_decide_eq_true room⟩
    · cases h

theorem loanCheck_none {l : Option Loan} {patron : Code} (h : loanCheck l patron = .ok none) : l = none := by
  unfold loanCheck at h
  split at h
  · rfl
  · split at h <;> cases h

theorem removeFlagOf_loans (item : Code) (s : State) : (removeFlagOf item s).rm.loans = s.rm.loans := by
  unfold removeFlagOf; split <;> rfl

theorem removeLoan_loanOf (item : Code) (s : State) : (removeLoan item s).loanOf item = none := by
  unfold removeLoan
  split
  · assumption
  · exact lookupBy_removeBy_same ..

/-- The records of the clearing of a flag and of an implicit return (R113, check 9). -/
theorem clearFlagFor_length (st : Station) (item : Code) (clear : Option ItemFlag) (s : State) :
    (clearFlagFor st item clear s).rm.journal.length = s.rm.journal.length + if clear.isSome then 1 else 0 := by
  unfold clearFlagFor
  split
  · rfl
  · simp [removeFlagOf_journal]

theorem returnImplicitly_length (st : Station) (item : Code) (implicit : Option Loan) (s : State) :
    (returnImplicitly st item implicit s).rm.journal.length = s.rm.journal.length + if implicit.isSome then 1 else 0 := by
  unfold returnImplicitly
  split
  · rfl
  · simp [removeLoan_journal]

theorem writes_clearFlagFor {st : Station} {item : Code} {clear : Option ItemFlag} {s : State} (room : s.rm.journal.length < 4096) :
    Writes s (clearFlagFor st item clear s) := by
  unfold clearFlagFor
  split
  · exact .refl s
  · exact (writes_removeFlagOf item s).trans (writes_record (by rw [removeFlagOf_journal]; exact room) (by simp) (by simp))

theorem writes_returnImplicitly {st : Station} {item : Code} {implicit : Option Loan} {s : State}
    (room : s.rm.journal.length < 4096) : Writes s (returnImplicitly st item implicit s) := by
  unfold returnImplicitly
  split
  · exact .refl s
  · exact (writes_removeLoan item s).trans (writes_record (by rw [removeLoan_journal]; exact room) (by simp) (by simp))

theorem clearFlagFor_same (st : Station) (item : Code) (clear : Option ItemFlag) (s : State) :
    SameButRecords s (clearFlagFor st item clear s) := by
  unfold clearFlagFor
  split
  · exact .refl s
  · exact (removeFlagOf_same item s).trans (writeRecord_same ..)

theorem returnImplicitly_same (st : Station) (item : Code) (implicit : Option Loan) (s : State) :
    SameButRecords s (returnImplicitly st item implicit s) := by
  unfold returnImplicitly
  split
  · exact .refl s
  · exact (removeLoan_same item s).trans (writeRecord_same ..)

theorem lend_same (st : Station) (item patron : Code) (plan : CheckoutPlan) (flags : RecordFlags) (s : State) :
    SameButRecords s (lend st item patron plan flags s) := by
  unfold lend
  dsimp only
  split
  · exact writeRecord_same ..
  · exact (writeRecord_same _ s).trans (insertLoan_same ..)

theorem clearFlagFor_loanOf (st : Station) (item item' : Code) (clear : Option ItemFlag) (s : State) :
    (clearFlagFor st item clear s).loanOf item' = s.loanOf item' := by
  unfold clearFlagFor
  split
  · rfl
  · simp only [State.loanOf, writeRecord_eq, removeFlagOf_loans]

/-- After its implicit return the item is on loan to no one (R115). -/
theorem returnImplicitly_loanOf {st : Station} {item patron : Code} {implicit : Option Loan} {s : State}
    (h : loanCheck (s.loanOf item) patron = .ok implicit) : (returnImplicitly st item implicit s).loanOf item = none := by
  unfold returnImplicitly
  split
  · exact loanCheck_none h
  · exact removeLoan_loanOf ..

@[simp] theorem lend_length (st : Station) (item patron : Code) (plan : CheckoutPlan) (flags : RecordFlags) (s : State) :
    (lend st item patron plan flags s).rm.journal.length = s.rm.journal.length + 1 := by
  unfold lend
  dsimp only
  split
  · simp
  · simp [insertLoan, moveSearches]

theorem writes_lend {st : Station} {item patron : Code} {plan : CheckoutPlan} {flags : RecordFlags} {s : State}
    (room : s.rm.journal.length < 4096) (new : s.loanOf item = none)
    (later : s.clock.Legal → s.clock.day * 1440 + s.clock.minute < plan.dueDay * 1440 + plan.dueMinute.getD 1439) :
    Writes s (lend st item patron plan flags s) := by
  have written : ∀ e : Entry, e.kind = .checkout → Writes s (writeRecord e s) := fun e k =>
    writes_record room (by simp [k]) (by simp [k])
  unfold lend
  dsimp only
  split
  · exact written _ rfl
  · rename_i full
    have space : s.rm.loans.length < 8192 := Nat.lt_of_not_le fun h => full (decide_eq_true h)
    exact (written _ rfl).trans (writes_insertLoan (by exact new) space fun g =>
      ⟨g.clock.1, g.clock.2.1, later g.clock⟩)

theorem writes_postOwner (st : Station) (e : Event) (s : State) : Writes s (postOwner st e s) := (quiet_postOwner st e s).writes
theorem writes_tone (st : Station) (x : Pattern) (s : State) : Writes s (tone st x s) := (quiet_tone st x s).writes

theorem writes_addLine {st : Station} {l : ItemLine} {s t : State} (room : (s.slot st).draft.length < 32)
    (same : SameButRecords s t) : Writes t (addLine st l t) :=
  (quiet_addLine (by rw [State.slot, same]; exact room)).writes

theorem postOwner_rm (st : Station) (e : Event) (s : State) : (postOwner st e s).rm = s.rm := by rw [(postOwner_same st e s).eq]

/-- The flag cleared, the loan returned and the item lent (R116). -/
def lent (st : Station) (item patron : Code) (plan : CheckoutPlan) (flags : RecordFlags) (s : State) : State :=
  lend st item patron plan flags (returnImplicitly st item plan.implicit (clearFlagFor st item plan.clear s))

theorem lent_same (st : Station) (item patron : Code) (plan : CheckoutPlan) (flags : RecordFlags) (s : State) :
    SameButRecords s (lent st item patron plan flags s) :=
  ((clearFlagFor_same ..).trans (returnImplicitly_same ..)).trans (lend_same ..)

theorem lent_length (st : Station) (item patron : Code) (plan : CheckoutPlan) (flags : RecordFlags) (s : State) :
    (lent st item patron plan flags s).rm.journal.length = s.rm.journal.length + plan.records := by
  rw [lent, lend_length, returnImplicitly_length, clearFlagFor_length, CheckoutPlan.records]
  omega

theorem CheckoutPassed.later {st : Station} {item patron : Code} {plan : CheckoutPlan} {s : State}
    (h : CheckoutPassed st item patron plan s) (legal : s.clock.Legal) :
    s.clock.day * 1440 + s.clock.minute < plan.dueDay * 1440 + plan.dueMinute.getD 1439 := by
  obtain ⟨_, due⟩ := h.due
  exact computeDue_later legal.1 legal.2.1 due

theorem writes_lent {st : Station} {item patron : Code} {plan : CheckoutPlan} (flags : RecordFlags) {s : State}
    (h : CheckoutPassed st item patron plan s) : Writes s (lent st item patron plan flags s) := by
  have room := h.room
  unfold CheckoutPlan.records at room
  have cleared := clearFlagFor_length st item plan.clear s
  have returned := returnImplicitly_length st item plan.implicit (clearFlagFor st item plan.clear s)
  have clock : (returnImplicitly st item plan.implicit (clearFlagFor st item plan.clear s)).clock = s.clock := by
    rw [(clearFlagFor_same ..).trans (returnImplicitly_same ..)]
  refine ((writes_clearFlagFor ?_).trans (writes_returnImplicitly ?_)).trans (writes_lend ?_ ?_ ?_)
  · split at room <;> omega
  · split at room <;> split at room <;> split at cleared <;> simp_all <;> omega
  · omega
  · exact returnImplicitly_loanOf ((congrArg (loanCheck · patron) (clearFlagFor_loanOf ..)).trans h.loan)
  · rw [clock]; exact h.later

/-- The end of an item step: the line, what the owner is told, the tone, and JOURNAL-HIGH (R38). -/
theorem Writes.told {s t : State} (w : Writes s t) (power : s.pfail = false) (more : s.rm.journal.length < t.rm.journal.length)
    (st : Station) (e : Event) : Whole s (highWater (tone st .accept (postOwner st e t))) :=
  ((w.trans (writes_postOwner st e t)).trans (writes_tone ..)).ended power (by simpa [postOwner_rm] using more)

theorem whole_checkoutSucceeds {st : Station} {item patron : Code} {plan : CheckoutPlan} {s : State} (power : s.pfail = false)
    (h : CheckoutPassed st item patron plan s) : Whole s (checkoutSucceeds st item patron plan s) := by
  have line : ∀ l, Writes s (addLine st l (lent st item patron plan (loanFlags st patron plan.dueMinute s) s)) := fun l =>
    (writes_lent _ h).trans (writes_addLine h.lines (lent_same ..))
  have more := lent_length st item patron plan (loanFlags st patron plan.dueMinute s) s
  have some_ : 0 < plan.records := by unfold CheckoutPlan.records; omega
  unfold checkoutSucceeds
  dsimp only
  refine Writes.told (t := ite _ _ _) ?_ power ?_ st _
  · split
    · exact (line _).trans (writes_postOwner ..)
    · exact line _
  · have rm : ∀ l, (addLine st l (lent st item patron plan (loanFlags st patron plan.dueMinute s) s)).rm =
        (lent st item patron plan (loanFlags st patron plan.dueMinute s) s).rm := fun _ => rfl
    unfold lent at rm more
    split
    · rw [postOwner_rm, rm]; omega
    · rw [rm]; omega

theorem whole_checkoutStepOf {st : Station} {item patron : Code} {s : State} (power : s.pfail = false)
    (isOpen : (s.slot st).state.isOpen = true) : Whole s (checkoutStepOf st item patron s) := by
  unfold checkoutStepOf
  split
  · exact (quiet_refuseStep ..).whole
  · exact (quiet_blockedStep isOpen).whole
  · exact whole_checkoutSucceeds power (checkoutChecks_pass ‹_›)

/-! ### A fine charged (R85, R90, R93) -/

/-- The threshold test goes by the BLOCK LIST, the balances and the threshold (R92). -/
theorem testRecords_congr {s t : State} (blocks : t.rm.blocks = s.rm.blocks) (balances : t.rm.balances = s.rm.balances)
    (config : t.config = s.config) (b : Code) : t.testRecords b = s.testRecords b := by
  have block : t.blockOf b = s.blockOf b := by rw [State.blockOf, State.blockOf, blocks]
  have threshold : t.atThreshold b = s.atThreshold b := by
    rw [State.atThreshold, State.atThreshold, State.balanceOf, State.balanceOf, State.balanceEntry, State.balanceEntry, balances, config]
  rw [State.testRecords, State.testRecords, State.thresholdTest, State.thresholdTest, block, threshold]

theorem chargeMoney_length (st : Station) (l : Loan) {fine : Nat} (h : 0 < fine) (s : State) :
    (chargeMoney st l fine s).rm.journal.length = s.rm.journal.length + 1 := by
  rw [chargeMoney, if_pos h, writeMoney_length]

theorem chargeMoney_eq (st : Station) (l : Loan) {fine : Nat} (h : 0 < fine) (s : State) : chargeMoney st l fine s =
    writeMoney { kind := .fine, station := some st, port := s.stepPort st, item := some l.item } l.borrower fine s := if_pos h

theorem writeMoney_balances (e : Entry) (b : Code) (cents : Nat) (s : State) :
    (writeMoney e b cents s).rm.balances = s.balancesCharged b (applyMoney e.kind cents) := by
  rw [writeMoney_eq]; exact updateBalance_balances ..

/-- The room test of a fine counts the same records before and after what the step writes first (R35, R117). -/
theorem fineRecords_congr {s t : State} (blocks : t.rm.blocks = s.rm.blocks) (balances : t.rm.balances = s.rm.balances)
    (config : t.config = s.config) (st : Station) (l : Loan) (fine : Nat) : t.fineRecords st l fine = s.fineRecords st l fine := by
  unfold State.fineRecords
  split
  · rename_i pos
    congr 1
    rw [chargeMoney_eq st l pos, chargeMoney_eq st l pos]
    refine testRecords_congr (by rw [writeMoney_eq, writeMoney_eq]; exact blocks) ?_
      (by rw [writeMoney_eq, writeMoney_eq]; exact config) _
    rw [writeMoney_balances, writeMoney_balances]
    simp only [State.balancesCharged, State.balanceEntry, balances]
  · rfl

theorem writes_chargeFine {st : Station} {l : Loan} {fine : Nat} {s : State}
    (room : s.rm.journal.length + s.fineRecords st l fine ≤ 4096) : Writes s (chargeFine st l fine s) := by
  unfold chargeFine
  unfold State.fineRecords at room
  split
  · rename_i pos
    rw [if_pos pos] at room
    have len := chargeMoney_length st l pos s
    refine Writes.trans ?_ (writes_runTest (s := chargeMoney st l fine s) (by omega))
    rw [chargeMoney_eq st l pos]
    exact writes_money (by omega) (.inl rfl)
  · exact .refl s

theorem chargeFine_length_le (st : Station) (l : Loan) (fine : Nat) (s : State) :
    (chargeFine st l fine s).rm.journal.length ≤ s.rm.journal.length + s.fineRecords st l fine := by
  unfold chargeFine State.fineRecords
  split
  · rename_i pos
    have := runTest_length_le (some st) (s.stepPort st) l.borrower (chargeMoney st l fine s)
    rw [chargeMoney_length st l pos] at this
    omega
  · simp

theorem runTest_loans (st : Option Station) (p : Port) (b : Code) (s : State) : (runTest st p b s).rm.loans = s.rm.loans := by
  unfold runTest
  split
  · rfl
  · unfold requestBlock putBlock
    repeat' split
    · rfl
    · rfl
    · rw [(postStaff_same _ s).eq]
  · unfold liftBlock removeBlockOf
    split <;> rfl

theorem chargeFine_loans (st : Station) (l : Loan) (fine : Nat) (s : State) : (chargeFine st l fine s).rm.loans = s.rm.loans := by
  unfold chargeFine
  split
  · rename_i pos
    rw [runTest_loans, chargeMoney_eq st l pos, writeMoney_eq]
  · rfl

/-! ### The return step (R117, R118) -/

theorem writeReturn_same (st : Station) (item : Code) (loan : Option Loan) (s : State) :
    SameButRecords s (writeReturn st item loan s) := by
  unfold writeReturn
  dsimp only
  split
  · exact (removeLoan_same item s).trans (writeRecord_same ..)
  · split <;> exact writeRecord_same ..

theorem writeReturn_length (st : Station) (item : Code) (loan : Option Loan) (s : State) :
    (writeReturn st item loan s).rm.journal.length = s.rm.journal.length + 1 := by
  unfold writeReturn
  dsimp only
  split
  · simp [removeLoan_journal]
  · split <;> simp

theorem removeLoan_tables (item : Code) (s : State) : (removeLoan item s).rm.blocks = s.rm.blocks ∧
    (removeLoan item s).rm.balances = s.rm.balances := by
  unfold removeLoan; split <;> exact ⟨rfl, rfl⟩

theorem writeReturn_tables (st : Station) (item : Code) (loan : Option Loan) (s : State) :
    (writeReturn st item loan s).rm.blocks = s.rm.blocks ∧ (writeReturn st item loan s).rm.balances = s.rm.balances := by
  unfold writeReturn
  dsimp only
  split
  · exact removeLoan_tables item s
  · split <;> exact ⟨rfl, rfl⟩

theorem writes_writeReturn {st : Station} {item : Code} {loan : Option Loan} {s : State} (room : s.rm.journal.length < 4096) :
    Writes s (writeReturn st item loan s) := by
  unfold writeReturn
  dsimp only
  split
  · exact (writes_removeLoan item s).trans (writes_record (by rw [removeLoan_journal]; exact room) (by simp) (by simp))
  · split <;> exact writes_record room (by simp) (by simp)

/-- The records of a return step: RETURN, and the fine of a loan (R118). -/
def returned (st : Station) (item : Code) (loan : Option Loan) (fine : Nat) (s : State) : State :=
  match loan with
  | some l => chargeFine st l fine (writeReturn st item loan s)
  | none => writeReturn st item loan s

theorem returned_same (st : Station) (item : Code) (loan : Option Loan) (fine : Nat) (s : State) :
    SameButRecords s (returned st item loan fine s) := by
  unfold returned
  split
  · exact (writeReturn_same ..).trans (chargeFine_same ..)
  · exact writeReturn_same ..

theorem writes_returned {st : Station} {item : Code} {s : State}
    (room : s.rm.journal.length + s.returnRecords st item ≤ 4096) :
    Writes s (returned st item (s.loanOf item) (((s.loanOf item).map s.fineOf).getD 0) s) ∧
      s.rm.journal.length < (returned st item (s.loanOf item) (((s.loanOf item).map s.fineOf).getD 0) s).rm.journal.length := by
  have len := writeReturn_length st item (s.loanOf item) s
  have tables := writeReturn_tables st item (s.loanOf item) s
  have same := writeReturn_same st item (s.loanOf item) s
  have config : (writeReturn st item (s.loanOf item) s).config = s.config := by rw [same]
  unfold State.returnRecords at room
  unfold returned
  split
  · rename_i l loan
    rw [loan] at room len tables config ⊢
    simp only [Option.map_some, Option.getD_some] at room ⊢
    have fine := writes_chargeFine (st := st) (l := l) (fine := s.fineOf l) (s := writeReturn st item (some l) s)
      (by rw [fineRecords_congr tables.1 tables.2 config]; omega)
    have := fine.grows.length_le
    exact ⟨(writes_writeReturn (by omega)).trans fine, by omega⟩
  · rename_i loan
    rw [loan] at room len ⊢
    exact ⟨writes_writeReturn room, by omega⟩

theorem returnSucceeds_eq (st : Station) (item : Code) (s : State) : returnSucceeds st item s =
    let fine := ((s.loanOf item).map s.fineOf).getD 0
    let held := (s.flagOf item).bind (fun f => if f.flag = .reserved then f.reserver else none)
    let s3 := addLine st ⟨item, .returned, none, fine, held⟩ (returned st item (s.loanOf item) fine s)
    let s4 := match held with
      | some b => postOwner st (stationEvent .holdShelf st (some b)) s3
      | none => s3
    highWater (tone st .accept (postOwner st { stationEvent .itemIn st (some item) with value := some (.amount fine) } s4)) := by
  unfold returnSucceeds returned
  rfl

theorem whole_returnSucceeds {st : Station} {item : Code} {s : State} (power : s.pfail = false)
    (lines : (s.slot st).draft.length < 32) (room : s.rm.journal.length + s.returnRecords st item ≤ 4096) :
    Whole s (returnSucceeds st item s) := by
  obtain ⟨writes, more⟩ := writes_returned room
  rw [returnSucceeds_eq]
  dsimp only
  have line : ∀ l, Writes s (addLine st l (returned st item (s.loanOf item) (((s.loanOf item).map s.fineOf).getD 0) s)) :=
    fun l => writes.trans (writes_addLine lines (returned_same ..))
  split
  · exact ((line _).trans (writes_postOwner ..)).told power (by rw [postOwner_rm]; exact more) st _
  · exact (line _).told power more st _

theorem whole_returnStepOf {st : Station} {item : Code} {s : State} (power : s.pfail = false) :
    Whole s (returnStepOf st item s) := by
  unfold returnStepOf
  split
  · exact (quiet_refuseStep ..).whole
  · split
    · rename_i lines room
      exact whole_returnSucceeds power (Nat.not_le.mp lines) (of_decide_eq_true room)
    · exact (quiet_refuseStep ..).whole

/-! ### The renew step (R119, R120) -/

/-- What the checks of a renewal that passes have found (R119). -/
structure RenewPassed (st : Station) (item patron : Code) (plan : RenewPlan) (s : State) : Prop where
  system : systemOf item = s.config.system
  allowed : (s.slot st).overridden = true ∨ s.isBlocked patron = false
  loan : s.loanOf item = some plan.loan
  borrower : plan.loan.borrower = patron
  free : s.isReserved item = false
  renewals : plan.loan.renewals < (s.config.itemClasses.get plan.loan.itemClass).maxRenewals
  lines : (s.slot st).draft.length < 32
  due : ∃ facts, s.dueAt (s.renewalInstant plan.loan).1 (s.renewalInstant plan.loan).2 plan.loan.itemClass plan.loan.borrowerClass =
    .due plan.dueDay plan.dueMinute facts
  room : s.rm.journal.length + (s.fineRecords st plan.loan (s.fineOf plan.loan) + 1) ≤ 4096

theorem renewChecks_pass {st : Station} {item patron : Code} {plan : RenewPlan} {s : State}
    (h : renewChecks st item patron s = .pass plan) : RenewPassed st item patron plan s := by
  unfold renewChecks at h
  split at h
  · cases h
  rename_i system
  split at h
  · cases h
  rename_i allowed
  split at h
  · cases h
  rename_i l loan
  split at h
  · cases h
  rename_i borrower
  split at h
  · cases h
  rename_i free
  split at h
  · cases h
  rename_i renewals
  split at h
  · cases h
  rename_i lines
  split at h
  · cases h
  · cases h
  · rename_i day minute facts due
    split at h
    · rename_i room
      cases h
      exact ⟨not_not.mp system, by
        by_cases o : (s.slot st).overridden = true
        · exact .inl o
        · exact .inr (by simpa [o] using allowed), loan, not_not.mp borrower, by simpa using free,
        Nat.not_le.mp renewals, Nat.not_le.mp lines, ⟨facts, due⟩, of_decide_eq_true room⟩
    · cases h

/-- The records of a renewal: the FINE of a late loan, RENEW, and the loan with its new due (R120). -/
def renewed (st : Station) (item patron : Code) (plan : RenewPlan) (flags : RecordFlags) (fine : Nat) (s : State) : State :=
  let s1 := chargeFine st plan.loan fine s
  replaceLoan
    { plan.loan with dueDay := plan.dueDay, dueMinute := plan.dueMinute, renewals := plan.loan.renewals + 1, seq := s1.rm.nextSeq }
    (writeRecord { kind := .renewed, station := some st, port := s.stepPort st, flags := flags, borrower := some patron,
                   item := some item, dueDay := some plan.dueDay, dueMinute := plan.dueMinute } s1)

theorem renewed_same (st : Station) (item patron : Code) (plan : RenewPlan) (flags : RecordFlags) (fine : Nat) (s : State) :
    SameButRecords s (renewed st item patron plan flags fine s) :=
  ((chargeFine_same ..).trans (writeRecord_same ..)).trans (replaceLoan_same ..)

/-- The due of a renewal is later than the loan's checkout, which it keeps (R24, R27). -/
theorem RenewPassed.later {st : Station} {item patron : Code} {plan : RenewPlan} {s : State}
    (h : RenewPassed st item patron plan s) (dated : ∀ l ∈ s.rm.loans, l.Dated) (legal : s.clock.Legal) :
    plan.loan.outDay ≤ 65535 ∧ plan.loan.outMinute ≤ 1439 ∧
      plan.loan.outDay * 1440 + plan.loan.outMinute < plan.dueDay * 1440 + plan.dueMinute.getD 1439 := by
  obtain ⟨facts, due⟩ := h.due
  obtain ⟨day, minute, _⟩ := dated _ (lookupBy_some Loan.key h.loan).1
  refine ⟨day, minute, ?_⟩
  unfold State.renewalInstant at due
  split at due
  · exact computeDue_later day minute due
  · rename_i notEarly
    exact (Nat.not_lt.mp notEarly).trans_lt (computeDue_later legal.1 legal.2.1 due)

theorem writes_renewed {st : Station} {item patron : Code} {plan : RenewPlan} (flags : RecordFlags) {s : State}
    (h : RenewPassed st item patron plan s) : Writes s (renewed st item patron plan flags (s.fineOf plan.loan) s) ∧
      s.rm.journal.length < (renewed st item patron plan flags (s.fineOf plan.loan) s).rm.journal.length := by
  have room := h.room
  have len := chargeFine_length_le st plan.loan (s.fineOf plan.loan) s
  have charge : Writes s (chargeFine st plan.loan (s.fineOf plan.loan) s) := writes_chargeFine (by omega)
  refine ⟨?_, ?_⟩
  · refine (charge.trans (writes_record ?_ (by simp) (by simp))).trans (writes_replaceLoan fun g => h.later ?_ ?_)
    · omega
    · have loans : ∀ l ∈ (chargeFine st plan.loan (s.fineOf plan.loan) s).rm.loans, l.Dated := g.rm.sound.loans
      rwa [chargeFine_loans] at loans
    · have legal : (chargeFine st plan.loan (s.fineOf plan.loan) s).clock.Legal := g.clock
      rwa [chargeFine_same] at legal
  · have := charge.grows.length_le
    simp only [renewed, replaceLoan, writeRecord_length]
    omega

theorem renewSucceeds_eq (st : Station) (item patron : Code) (plan : RenewPlan) (s : State) : renewSucceeds st item patron plan s =
    highWater (tone st .accept
      (postOwner st { stationEvent .itemRenewed st (some item) with value := some (.due plan.dueDay plan.dueMinute) }
        (addLine st ⟨item, .renewed, some (plan.dueDay, plan.dueMinute), s.fineOf plan.loan, none⟩
          (renewed st item patron plan (loanFlags st patron plan.dueMinute s) (s.fineOf plan.loan) s)))) := rfl

theorem whole_renewStepOf {st : Station} {item patron : Code} {s : State} (power : s.pfail = false)
    (isOpen : (s.slot st).state.isOpen = true) : Whole s (renewStepOf st item patron s) := by
  unfold renewStepOf
  split
  · exact (quiet_refuseStep ..).whole
  · exact (quiet_blockedStep isOpen).whole
  · have passed := renewChecks_pass ‹_›
    obtain ⟨writes, more⟩ := writes_renewed (loanFlags st patron _ s) passed
    rw [renewSucceeds_eq]
    exact (writes.trans (writes_addLine passed.lines (renewed_same ..))).told power more st _

/-! ### The rows of TABLE 6-4 -/

theorem codeToTake_some {s : State} {st : Station} {c : Code} (h : s.codeToTake st = some c) :
    s.running = true ∧ s.pfail = false ∧ (s.slot st).state.isOpen = true ∧ (s.station st).scans.head? = some c := by
  unfold State.codeToTake at h
  split at h
  · rename_i may
    simp only [Bool.and_eq_true, Bool.not_eq_true'] at may
    exact ⟨may.1.1, may.1.2, may.2, h⟩
  · cases h

theorem takeCode_slot (st st' : Station) (s : State) : ((takeCode st s).slot st').state = (s.slot st').state := by
  unfold takeCode restartTimer
  by_cases h : st' = st
  · subst h; simp [dropOldestScan]
  · rw [State.slot_putSlot_other _ _ h]; rfl

theorem Whole.afterCode {s t : State} (st : Station) (k : Whole (takeCode st s) t) : Whole s t :=
  (quiet_takeCode st s).thenWhole k fun st' h => by rw [takeCode_slot]; exact h

theorem quiet_onPatronStep (st : Station) (s : State) : Quiet s (onPatronStep st s) := by
  unfold onPatronStep
  split
  · exact .ite (fun h => (quiet_takeCode st s).trans (quiet_patronStepOf (by rw [takeCode_slot]; exact h.1))) fun _ => .refl s
  · exact .refl s

theorem whole_onCheckoutStep (st : Station) (s : State) : Whole s (onCheckoutStep st s) := by
  unfold onCheckoutStep
  split
  · rename_i take _
    obtain ⟨_, power, isOpen, _⟩ := codeToTake_some take
    split
    · exact (whole_checkoutStepOf (s := takeCode st s) power (by rw [takeCode_slot]; exact isOpen)).afterCode st
    · exact .refl s
  · exact .refl s

theorem whole_onReturnStep (st : Station) (s : State) : Whole s (onReturnStep st s) := by
  unfold onReturnStep
  split
  · rename_i take
    obtain ⟨_, power, _, _⟩ := codeToTake_some take
    split
    · exact (whole_returnStepOf (s := takeCode st s) power).afterCode st
    · exact .refl s
  · exact .refl s

theorem whole_onRenewStep (st : Station) (s : State) : Whole s (onRenewStep st s) := by
  unfold onRenewStep
  split
  · rename_i take _
    obtain ⟨_, power, isOpen, _⟩ := codeToTake_some take
    split
    · exact (whole_renewStepOf (s := takeCode st s) power (by rw [takeCode_slot]; exact isOpen)).afterCode st
    · exact .refl s
  · exact .refl s

theorem quiet_onSecondCard (st : Station) (s : State) : Quiet s (onSecondCard st s) := by
  unfold onSecondCard
  split
  · rename_i take
    obtain ⟨_, _, isOpen, _⟩ := codeToTake_some take
    exact .ite (fun _ => (quiet_takeCode st s).trans
      (quiet_faultLast (quiet_closeSlot (by rw [takeCode_slot]; exact isOpen)))) fun _ => .refl s
  · exact .refl s

theorem quiet_onIgnoredCode (st : Station) (s : State) : Quiet s (onIgnoredCode st s) := by
  unfold onIgnoredCode
  split
  · exact .ite (fun _ => quiet_takeCode st s) fun _ => .refl s
  · exact .refl s

theorem quiet_onWrongCode (st : Station) (s : State) : Quiet s (onWrongCode st s) := by
  unfold onWrongCode
  split
  · split
    · exact (quiet_takeCode st s).trans (quiet_refuseStep ..)
    · exact .refl s
  · exact .refl s

end Sys2Proof.Machine
end

section
/-! PROOF. What the commands of the ports keep: each is answered with a refusal that changes nothing, or with OK and a whole event
(R174). O10. -/

namespace Sys2Proof.Machine

/-! ### The settings in their ranges -/

theorem vector_get_set {α : Type} {n : Nat} (v : Vector α n) (i j : Fin n) (x : α) :
    (v.set i x).get j = if i = j then x else v.get j := by
  simp only [Vector.get_eq_getElem, Vector.getElem_set, Fin.ext_iff]

theorem SettingsInRange.setStation {c : Configuration} (h : SettingsInRange c) (st : Station) {x : StationConfig}
    (range : x.repeatWindow ≤ 5000 ∧ x.timeout ≤ 600) : SettingsInRange { c with stations := c.stations.set st x } :=
  { h with
    stations := fun st' => by
      by_cases e : st' = st
      · subst e; simpa using range
      · rw [PerStation.get_set_other _ _ e]; exact h.stations st' }

theorem SettingsInRange.setHours {c : Configuration} (h : SettingsInRange c) (w : Fin 7) {x : DayHours}
    (range : x.openAt ≤ x.closeAt ∧ x.closeAt ≤ 1440) : SettingsInRange { c with hours := c.hours.set w x } :=
  { h with
    hours := fun w' => by
      rw [vector_get_set]
      split
      · exact range
      · exact h.hours w' }

theorem SettingsInRange.setPeriod {c : Configuration} (h : SettingsInRange c) (ic : Fin 16) (bc : Fin 8) {n : Nat} (le : n ≤ 255) :
    SettingsInRange { c with
      periods := c.periods.set ic ((c.periods.get ic).set bc (storedPeriod (c.itemClasses.get ic).kind n)) } :=
  { h with
    periods := fun ic' bc' => by
      have before := h.periods ic' bc'
      unfold periodOf at *
      rw [vector_get_set]
      split
      · rename_i e
        subst e
        rw [vector_get_set]
        split
        · unfold storedPeriod
          split
          · exact ⟨by omega, fun _ => by omega⟩
          · rename_i day; exact ⟨le, fun hour => absurd hour day⟩
        · exact before
      · exact before }

theorem SettingsInRange.setItemClass {c : Configuration} (h : SettingsInRange c) (ic : Fin 16) (k : ClassKind) (ps : List Byte) :
    SettingsInRange { c with
      itemClasses := c.itemClasses.set ic (storedItemClass k ps),
      periods := c.periods.set ic (periodsForKind (c.itemClasses.get ic).kind k (c.periods.get ic)) } :=
  { h with
    itemClasses := fun ic' => by
      rw [vector_get_set]
      split
      · exact ⟨Nat.min_le_right .., Nat.min_le_right .., Nat.min_le_right .., Nat.min_le_right ..⟩
      · exact h.itemClasses ic'
    periods := fun ic' bc => by
      have before := h.periods ic' bc
      unfold periodOf at *
      simp only [vector_get_set]
      split
      · rename_i e
        subst e
        unfold periodsForKind
        split
        · have cut : (Vector.map (fun n => min n 72) (c.periods.get ic)).get bc = min ((c.periods.get ic).get bc) 72 := by
            simp [Vector.get_eq_getElem]
          rw [cut]
          exact ⟨by omega, fun _ => by omega⟩
        · rename_i same
          refine ⟨before.1, fun hour => before.2 ?_⟩
          by_contra day
          exact same ⟨by cases hk : (c.itemClasses.get ic).kind <;> simp_all, hour⟩
      · exact before }

theorem SettingsInRange.setBorrowerClass {c : Configuration} (h : SettingsInRange c) (bc : Fin 8) {limit term : Nat}
    (le : limit ≤ 255) (lt : term < 65536) :
    SettingsInRange { c with borrowerClasses := c.borrowerClasses.set bc ⟨limit, termLimitOf term⟩ } :=
  { h with
    borrowerClasses := fun bc' => by
      rw [vector_get_set]
      split
      · refine ⟨le, fun l hl => ?_⟩
        simp only [termLimitOf] at hl
        split at hl
        · cases hl
        · cases hl; omega
      · exact h.borrowerClasses bc' }

theorem SettingsInRange.setLink {c : Configuration} (h : SettingsInRange c) {ps : List Byte}
    (ok : ¬ ((byteAt ps 0).toNat = 0 ∨ (byteAt ps 0).toNat = 255 ∨ systemBad (numAt ps 1) = true ∨ 1439 < numAt ps 3 ∨
      1439 < numAt ps 5)) : SettingsInRange (linkSettings ps c) := by
  simp only [not_or, Bool.not_eq_true] at ok
  obtain ⟨low, high, system, start, stop⟩ := ok
  have byte := (byteAt ps 0).isLt
  exact { h with
    address := ⟨Nat.pos_of_ne_zero low, by simp only [linkSettings]; omega⟩
    system := fun k hk => by
      have lt := numAt_lt ps 1
      simp only [systemBad, List.any_cons, List.any_nil, Bool.or_eq_false_iff, decide_eq_false_iff_not, Nat.not_lt] at system
      obtain ⟨s3, s2, s1, s0, _⟩ := system
      simp only [linkSettings, BitVec.toNat_ofNat]
      rw [Nat.mod_eq_of_lt lt]
      match k, hk with
      | 0, _ => simpa using s0
      | 1, _ => simpa using s1
      | 2, _ => simpa using s2
      | 3, _ => simpa using s3
    window := ⟨Nat.not_lt.mp start, Nat.not_lt.mp stop⟩
    retryInterval := ⟨by simp only [linkSettings]; omega, Nat.min_le_right ..⟩ }

theorem inRange_factory : SettingsInRange Configuration.factory where
  stations st := by cases st <;> decide
  hours := by decide
  itemClasses := by decide
  periods := by decide
  borrowerClasses bc := ⟨by revert bc; decide, fun l hl => by
    have none : ∀ bc, (Configuration.factory.borrowerClasses.get bc).termLimit = none := by decide
    rw [none] at hl; cases hl⟩
  threshold := by decide
  idleTime := by decide
  address := by decide
  system := by decide
  window := by decide
  retryInterval := by decide

/-! ### Fair answers -/

/-- An answer is a refusal that changes nothing, or OK with a whole event (R174). -/
inductive Answer.Fair (s : State) : Answer → Prop where
  | refused (c : Completion) (bad : c ≠ .ok) : Fair s (refuse c s)
  | completed (bytes : List Byte) (t : State) (whole : Whole s t) : Fair s (done bytes t)

/-- A command whose every answer is fair. -/
def Command.Fair (cmd : Command) : Prop := ∀ p ps s, (cmd p ps s).Fair s

theorem fair_quiet {s t : State} (bytes : List Byte) (h : Quiet s t) : (done bytes t).Fair s := .completed _ _ h.whole
theorem fair_report (bytes : List Byte) (s : State) : (done bytes s).Fair s := fair_quiet _ (.refl s)

theorem fair_ite {s : State} {c : Prop} [Decidable c] {a b : Answer} (h : c → a.Fair s) (k : ¬ c → b.Fair s) :
    (if c then a else b).Fair s := by
  split
  · exact h ‹_›
  · exact k ‹_›

theorem fair_withStation {b : Byte} {s : State} {k : Station → Answer} (h : ∀ st, (k st).Fair s) : (withStation b s k).Fair s := by
  unfold withStation
  split
  · exact h _
  · exact .refused _ (by simp)

theorem fair_ifOwner {p : Port} {st : Station} {s : State} {r : Answer} (h : s.owner st = some p → r.Fair s) :
    (ifOwner p st s r).Fair s := fair_ite h fun _ => .refused _ (by simp)

theorem fair_ifPowerGood {s : State} {r : Answer} (h : s.pfail = false → r.Fair s) : (ifPowerGood s r).Fair s :=
  fair_ite (fun _ => .refused _ (by simp)) fun k => h (by simpa using k)

theorem fair_ifRoom {n : Nat} {s : State} {r : Answer} (h : s.rm.journal.length + n ≤ 4096 → r.Fair s) : (ifRoom n s r).Fair s :=
  fair_ite (fun k => h (of_decide_eq_true k)) fun _ => .refused _ (by simp)

theorem fair_settings {c : Configuration} {s : State} (range : SettingsInRange s.config → SettingsInRange c)
    (stations : c.stations = s.config.stations) : (done [] (writeSettings c s)).Fair s :=
  .completed _ _ (whole_writeSettings range fun st _ => by rw [stations]; rfl)

/-- A record written as the whole of a step (R35, R38). -/
theorem fair_recorded {s t : State} (bytes : List Byte) (w : Writes s t) (power : s.pfail = false)
    (more : s.rm.journal.length < t.rm.journal.length) : (done bytes (highWater t)).Fair s :=
  .completed _ _ (w.ended power more)

/-! ### The commands of the ports and the stations -/

theorem fair_identify : Command.Fair identify := fun _ _ _ => fair_report ..

theorem fair_setAttention : Command.Fair setAttention := fun p ps s => by
  unfold setAttention
  split
  · exact fair_quiet _ (quiet_putPort ⟨id, id⟩)
  · exact .refused _ (by simp)

theorem fair_takeEvent : Command.Fair takeEvent := fun p ps s => by
  unfold takeEvent
  split
  · exact .refused _ (by simp)
  · rename_i e rest queue
    refine fair_quiet _ (quiet_putPort ⟨fun h => ⟨?_, h.2⟩, id⟩)
    rw [queue, List.length_cons] at h
    exact Nat.le_of_succ_le h.1

theorem fair_portStatus : Command.Fair portStatus := fun _ _ _ =>
  fair_quiet _ (quiet_putPort ⟨fun h => ⟨h.1, Nat.zero_le _⟩, id⟩)

theorem fair_assignStation : Command.Fair assignStation := fun p ps s => fair_withStation fun st => by
  split
  · exact .refused _ (by simp)
  · refine fair_ite (fun _ => .refused _ (by simp)) fun idle => .completed _ _ ?_
    rw [not_not] at idle
    have emptied : Quiet s (s.putStation st { s.station st with scans := [], overflow := false }) :=
      quiet_putStation (fun _ => by simp) fun _ => id
    refine emptied.thenWhole (whole_writeSettings (fun h => h.setStation st (h.stations st)) fun st' busy => ?_) fun _ => id
    have other : st' ≠ st := fun e => busy (by rw [e]; exact idle)
    rw [PerStation.get_set_other _ _ other]
    rfl

theorem fair_stationStatus : Command.Fair stationStatus := fun _ _ _ => fair_withStation fun _ => fair_report ..

theorem fair_readScan : Command.Fair readScan := fun _ _ _ => fair_withStation fun _ => fair_ifOwner fun _ =>
  fair_ite (fun _ => .refused _ (by simp)) fun _ => by
    split
    · exact .refused _ (by simp)
    · exact fair_quiet _ (quiet_dropOldestScan ..)

theorem fair_keyEntry : Command.Fair keyEntry := fun _ _ _ => fair_withStation fun _ => fair_ifOwner fun _ =>
  fair_ite (fun _ => .refused _ (by simp)) fun _ => fair_ite (fun _ => .refused _ (by simp)) fun room =>
    fair_quiet _ (quiet_joinScans (Nat.not_le.mp room))

theorem fair_setStation : Command.Fair setStation := fun _ ps s => fair_withStation fun st =>
  .completed _ _ (whole_writeSettings (fun h => h.setStation st ⟨Nat.min_le_right .., Nat.min_le_right ..⟩) fun st' _ => by
    by_cases e : st' = st
    · subst e; simp [State.owner]
    · rw [PerStation.get_set_other _ _ e]; rfl)

/-! ### The commands of the transaction slots -/

theorem openedState_isOpen (m : TxMode) : (openedState m).isOpen = true := by cases m <;> rfl

theorem fair_openTransaction : Command.Fair openTransaction := fun p ps s => fair_withStation fun st => fair_ifOwner fun owner => by
  split
  · refine fair_ite (fun _ => .refused _ (by simp)) fun day => fair_ite (fun _ => .refused _ (by simp)) fun _ =>
      fair_ite (fun _ => .refused _ (by simp)) fun idle => fair_quiet _ (quiet_putSlot ?_ ?_ ?_ ?_)
    · exact fun _ => by simp [Slot.fresh]
    · exact fun _ => .inr (by rw [owner]; simp)
    · rw [not_not] at idle
      rw [idle]
      exact ⟨fun h => absurd h (ne_closing_of_open (openedState_isOpen _)), fun h => by cases h⟩
    · exact fun night => absurd night day
  · exact .refused _ (by simp)

theorem fair_closeTransaction : Command.Fair closeTransaction := fun _ _ _ => fair_withStation fun _ => fair_ifOwner fun _ =>
  fair_ite (fun isOpen => fair_quiet _ (quiet_faultLast (quiet_closeSlot isOpen))) fun _ => .refused _ (by simp)

theorem fair_cancelTransaction : Command.Fair cancelTransaction := fun _ _ _ => fair_withStation fun _ => fair_ifOwner fun _ =>
  fair_ite (fun _ => .refused _ (by simp)) fun isOpen =>
    fair_ite (fun _ => fair_quiet _ (quiet_leaveSlot_open (by simpa using isOpen))) fun _ => .refused _ (by simp)

/-- The step of OVERRIDE BLOCK before JOURNAL-HIGH (R112). -/
theorem writes_overridden {p : Port} {st : Station} {patron : Code} {s : State} (barred : (s.slot st).state = .patronBlocked)
    (room : s.rm.journal.length < 4096) :
    Writes s (restartTimer st (reportPatronOk st patron
      ((writeRecord { kind := .override, port := p, borrower := some patron } s).putSlot st
        { s.slot st with overridden := true, state := .serving }))) := by
  have written : Writes s (writeRecord { kind := .override, port := p, borrower := some patron } s) :=
    writes_record room (by simp) (by simp)
  have served : Quiet (writeRecord { kind := .override, port := p, borrower := some patron } s)
      ((writeRecord { kind := .override, port := p, borrower := some patron } s).putSlot st
        { s.slot st with overridden := true, state := .serving }) :=
    quiet_putSlot_open (show (s.slot st).state.isOpen = true by rw [barred]; rfl) rfl rfl
  exact written.trans ((served.trans (quiet_reportPatronOk ..)).trans (quiet_restartTimer ..)).writes

theorem fair_overrideBlock : Command.Fair overrideBlock := fun p ps s => fair_withStation fun st =>
  fair_ite (fun _ => .refused _ (by simp)) fun _ => fair_ifOwner fun _ => by
    split
    · rename_i patron barred _
      refine fair_ifPowerGood fun power => fair_ifRoom fun room => fair_recorded _ (writes_overridden barred (by omega)) power ?_
      rw [restartTimer, reportPatronOk]
      simp [postOwner_rm]
    · exact .refused _ (by simp)

theorem fair_transactionStatus : Command.Fair transactionStatus := fun _ _ _ => fair_withStation fun _ => fair_report ..

/-! ### The commands of the collections -/

theorem fair_find : Command.Fair find := fun p ps s => by
  unfold find
  split
  · exact fair_ite (fun _ => .refused _ (by simp)) fun _ => fair_ite (fun _ => .refused _ (by simp)) fun _ =>
      fair_ite (fun _ => .refused _ (by simp)) fun _ => fair_quiet _ (quiet_putPort ⟨id, id⟩)
  · exact .refused _ (by simp)

theorem quiet_endSearch (p : Port) (e : Event) (s : State) : Quiet s (endSearch p e s) :=
  (quiet_putPort (x := { s.port p with search := none }) ⟨id, id⟩).trans (quiet_post p e _)

theorem fair_abortFind : Command.Fair abortFind := fun p ps s => by
  unfold abortFind
  split
  · exact fair_quiet _ (quiet_endSearch ..)
  · exact .refused _ (by simp)

theorem fair_readEntry : Command.Fair readEntry := fun p ps s => by
  unfold readEntry
  split
  · exact .refused _ (by simp)
  · split
    · exact fair_report ..
    · exact .refused _ (by simp)

theorem fair_recordPayment : Command.Fair recordPayment := fun p ps s =>
  fair_ite (fun _ => .refused _ (by simp)) fun _ => fair_ite (fun _ => .refused _ (by simp)) fun _ =>
    fair_ifPowerGood fun power => fair_ifRoom fun room => by
      unfold State.paymentRecords payMoney at room
      have paid : Writes s (payMoney p (codeAt ps 0) (number (slice ps 7 3)) s) := writes_money (by omega) (.inr rfl)
      have tested : Writes _ (runTest none p (codeAt ps 0) (payMoney p (codeAt ps 0) (number (slice ps 7 3)) s)) :=
        writes_runTest (by unfold payMoney; rw [writeMoney_length]; omega)
      refine fair_recorded _ (paid.trans tested) power (Nat.lt_of_lt_of_le ?_ tested.grows.length_le)
      unfold payMoney
      rw [writeMoney_length]
      omega

theorem fair_addBlock : Command.Fair addBlock := fun p ps s =>
  fair_ite (fun _ => .refused _ (by simp)) fun _ => by
    split
    · exact .refused _ (by simp)
    · refine fair_ifPowerGood fun power => fair_ite (fun _ => .refused _ (by simp)) fun _ =>
        fair_ite (fun _ => .refused _ (by simp)) fun space => fair_ifRoom fun room => fair_recorded _ ?_ power ?_
      · exact (writes_putBlock fun _ => Nat.not_le.mp space).trans
          (writes_record (by rw [putBlock_journal]; omega) (by simp) (by simp))
      · rw [writeRecord_length, putBlock_journal]; omega

theorem fair_removeBlock : Command.Fair removeBlock := fun p ps s =>
  fair_ite (fun _ => .refused _ (by simp)) fun _ => fair_ifPowerGood fun power => fair_ite (fun _ => .refused _ (by simp)) fun _ =>
    fair_ifRoom fun room => fair_recorded _
      ((writes_removeBlockOf ..).trans (writes_record (by rw [removeBlockOf_journal]; omega) (by simp) (by simp))) power
      (by rw [writeRecord_length, removeBlockOf_journal]; omega)

theorem fair_setItemFlagChecked (p : Port) (item : Code) (flag : ItemFlag) (reserver : Option Code) (s : State)
    (agree : reserver.isSome = true ↔ flag = .reserved) : (setItemFlagChecked p item flag reserver s).Fair s :=
  fair_ifPowerGood fun power => fair_ite (fun _ => .refused _ (by simp)) fun space => fair_ifRoom fun room =>
    fair_recorded _ ((writes_putFlag (fun new => Nat.lt_of_not_le fun full => space ⟨by
      have none : s.flagOf item = none := new
      rw [none]; rfl, full⟩) agree).trans (writes_record (by rw [putFlag_journal]; omega) (by simp) (by simp))) power
      (by rw [writeRecord_length, putFlag_journal]; omega)

theorem fair_setItemFlag : Command.Fair setItemFlag := fun p ps s =>
  fair_ite (fun _ => .refused _ (by simp)) fun _ => by
    split
    · exact .refused _ (by simp)
    · exact fair_ite (fun _ => .refused _ (by simp)) fun _ => fair_ite (fun _ => .refused _ (by simp)) fun _ =>
        fair_setItemFlagChecked _ _ _ _ _ (by simp)
    · rename_i flag other _
      exact fair_setItemFlagChecked _ _ _ _ _ ⟨fun h => (by cases h), fun h => absurd h other⟩

theorem fair_clearItemFlag : Command.Fair clearItemFlag := fun p ps s =>
  fair_ite (fun _ => .refused _ (by simp)) fun _ => fair_ifPowerGood fun power => fair_ite (fun _ => .refused _ (by simp)) fun _ =>
    fair_ifRoom fun room => fair_recorded _
      ((writes_removeFlagOf ..).trans (writes_record (by rw [removeFlagOf_journal]; omega) (by simp) (by simp))) power
      (by rw [writeRecord_length, removeFlagOf_journal]; omega)

theorem fair_tableCounts : Command.Fair tableCounts := fun _ _ _ => fair_report ..

/-! ### The commands of the calendar and the settings -/

theorem fair_setClock : Command.Fair setClock := fun _ ps _ =>
  fair_ite (fun _ => .refused _ (by simp)) fun minute =>
    .completed _ _ (whole_setClockTo (by have := numAt_lt ps 0; omega) (Nat.not_lt.mp minute))

theorem fair_readClock : Command.Fair readClock := fun _ _ _ => fair_report ..

theorem fair_setHours : Command.Fair setHours := fun p ps s => by
  unfold setHours
  split
  · exact .refused _ (by simp)
  · exact fair_ite (fun _ => .refused _ (by simp)) fun ok => by
      rw [not_or, Nat.not_lt, Nat.not_lt] at ok
      exact fair_settings (fun h => h.setHours _ ⟨ok.2, ok.1⟩) rfl

theorem fair_addClosure : Command.Fair addClosure := fun p ps s =>
  fair_ite (fun _ => .refused _ (by simp)) fun _ => fair_ifPowerGood fun power => fair_ite (fun _ => .refused _ (by simp)) fun new =>
    fair_ite (fun _ => .refused _ (by simp)) fun room =>
      .completed _ _ ((writes_insertClosure (by simpa using new) (Nat.not_le.mp room)).whole power rfl)

theorem fair_removeClosure : Command.Fair removeClosure := fun p ps s =>
  fair_ifPowerGood fun power => fair_ite (fun _ => .completed _ _ ((writes_dropClosure ..).whole power rfl)) fun _ =>
    .refused _ (by simp)

theorem fair_setPeriod : Command.Fair setPeriod := fun p ps s => by
  unfold setPeriod
  split
  · exact fair_settings (fun h => h.setPeriod _ _ (Nat.le_of_lt_succ (byteAt ps 2).isLt)) rfl
  · exact .refused _ (by simp)

theorem fair_setItemClass : Command.Fair setItemClass := fun p ps s => by
  unfold setItemClass
  split
  · exact fair_settings (fun h => h.setItemClass _ _ _) rfl
  · exact .refused _ (by simp)

theorem fair_setBorrowerClass : Command.Fair setBorrowerClass := fun p ps s => by
  unfold setBorrowerClass
  split
  · exact .refused _ (by simp)
  · exact fair_settings (fun h => h.setBorrowerClass _ (Nat.le_of_lt_succ (byteAt ps 1).isLt) (numAt_lt ..)) rfl

theorem fair_computeDueCommand : Command.Fair computeDueCommand := fun p ps s => by
  unfold computeDueCommand
  split
  · exact fair_ite (fun _ => .refused _ (by simp)) fun _ => fair_report ..
  · exact .refused _ (by simp)

theorem fair_setThreshold : Command.Fair setThreshold := fun _ _ _ =>
  fair_settings (fun h => { h with threshold := Nat.min_le_right .. }) rfl

/-! ### The commands of the SLIP UNIT and of the link -/

theorem lt_of_slipRoom {s : State} (h : s.slipRoom = true) : s.slip.queue.length < 8 := of_decide_eq_true h

theorem fair_printNote : Command.Fair printNote := fun _ _ _ =>
  fair_ite (fun _ => .refused _ (by simp)) fun _ => fair_ite (fun _ => .refused _ (by simp)) fun room =>
    fair_quiet _ (quiet_faultLast (quiet_queueSlip (lt_of_slipRoom (by simpa using room))))

theorem fair_reprintLast : Command.Fair reprintLast := fun _ _ _ => fair_withStation fun _ => fair_ifOwner fun _ => by
  split
  · exact .refused _ (by simp)
  · exact fair_ite (fun room => fair_quiet _ (quiet_faultLast (quiet_queueSlip (lt_of_slipRoom room)))) fun _ => .refused _ (by simp)

theorem fair_printerStatus : Command.Fair printerStatus := fun _ _ _ => fair_report ..

theorem fair_setHeader : Command.Fair setHeader := fun _ _ _ => fair_settings (fun h => { h with }) rfl

theorem fair_setPrinter : Command.Fair setPrinter := fun _ ps _ =>
  fair_settings (fun h => { h with idleTime := by simp only [storedIdleTime]; split <;> omega }) rfl

theorem fair_startUpload : Command.Fair startUpload := fun _ _ _ =>
  fair_ite (fun _ => .refused _ (by simp)) fun idle => fair_quiet _ (quiet_beginRun (by simpa using idle))

theorem fair_stopUpload : Command.Fair stopUpload := fun _ _ s =>
  fair_ite (fun _ => fair_quiet _ ((quiet_onLink (by exact rfl) fun h => sentFirst_onLink h id fun j => by cases j).trans
    (quiet_runFailed (.inl rfl)))) fun _ => .refused _ (by simp)

theorem fair_linkStatus : Command.Fair linkStatus := fun _ _ _ => fair_report ..

theorem fair_setLink : Command.Fair setLink := fun _ ps s =>
  fair_ite (fun _ => .refused _ (by simp)) fun ok => fair_ite (fun _ => .refused _ (by simp)) fun _ =>
    .completed _ _ (((whole_writeSettings (fun h => h.setLink ok) fun _ _ => rfl).quiet (quiet_rejudgeLink _)).quiet
      (quiet_rejudgeMode _))

theorem fair_setMode : Command.Fair setMode := fun _ _ s => by
  unfold setMode
  split
  · exact fair_quiet _ ((quiet_flags ..).trans (quiet_changeMode ..))
  · exact .refused _ (by simp)

/-! ### The table of the commands -/

theorem rules_fair : ∀ x ∈ commandRules, Command.Fair x.2 := by
  simp only [commandRules, List.forall_mem_append, List.forall_mem_cons, List.not_mem_nil, false_imp_iff, implies_true, and_true]
  exact ⟨⟨⟨⟨⟨⟨fair_identify, fair_setAttention, fair_takeEvent, fair_portStatus, fair_assignStation, fair_stationStatus, fair_readScan,
      fair_keyEntry, fair_setStation⟩,
    fair_openTransaction, fair_closeTransaction, fair_cancelTransaction, fair_overrideBlock, fair_transactionStatus⟩,
    fair_find, fair_abortFind, fair_readEntry, fair_recordPayment, fair_addBlock, fair_removeBlock, fair_setItemFlag,
      fair_clearItemFlag, fair_tableCounts⟩,
    fair_setClock, fair_readClock, fair_setHours, fair_addClosure, fair_removeClosure, fair_setPeriod, fair_setItemClass,
      fair_setBorrowerClass, fair_computeDueCommand, fair_setThreshold⟩,
    fair_printNote, fair_reprintLast, fair_printerStatus, fair_setHeader, fair_setPrinter⟩,
    fair_startUpload, fair_stopUpload, fair_linkStatus, fair_setLink, fair_setMode⟩

theorem mem_of_lookup {α β : Type} [BEq α] [LawfulBEq α] {a : α} {b : β} {l : List (α × β)} (h : l.lookup a = some b) : (a, b) ∈ l := by
  obtain ⟨l₁, l₂, e, _⟩ := List.lookup_eq_some_iff.mp h
  rw [e]; simp

theorem lookup_fair {code : Byte} {cmd : Command} (h : commandRules.lookup code = some cmd) : cmd.Fair :=
  rules_fair _ (mem_of_lookup h)

theorem answerOf_fair {code : Byte} {cmd : Command} (fair : cmd.Fair) (p : Port) (ps : List Byte) (s : State) :
    (answerOf code cmd p ps s).Fair s := fair_ite (fun _ => .refused _ (by simp)) fun _ => fair p ps s

theorem quiet_deliver (p : Port) (c : Completion) (bytes : List Byte) (s : State) : Quiet s (deliver p ⟨c, bytes, s⟩) :=
  quiet_putPort ⟨id, fun _ => by simp⟩

theorem whole_runCommand {code : Byte} {cmd : Command} (fair : cmd.Fair) (p : Port) (s : State) : Whole s (runCommand code cmd p s) := by
  unfold runCommand
  split
  · rename_i ps _
    have answer := answerOf_fair (code := code) fair p ps s
    generalize answerOf code cmd p ps s = r at answer
    cases answer with
    | refused c _ => exact (quiet_deliver ..).whole
    | completed bytes t whole => exact whole.quiet (quiet_deliver ..)
  · exact .refl s

theorem whole_runBuffered (p : Port) (s : State) : Whole s (runBuffered p s) := by
  unfold runBuffered
  split
  · exact .refl s
  · split
    · exact whole_runCommand (lookup_fair ‹_›) p s
    · exact .refl s

/-- Each row of TABLE 11-2 runs the rule of its code. -/
theorem exec_command {i : Instr} {p : Port} {code : Byte} (h : commandOf i = some (p, code)) :
    ∃ cmd, commandRules.lookup code = some cmd ∧ ∀ s, exec i s = .next (runCommand code cmd p s) := by
  cases i <;> cases h <;> exact ⟨_, rfl, fun _ => rfl⟩

/-- Settles O10: a fair answer with another completion than OK changes nothing, and its result is that completion. -/
theorem refusedCommandChangesNothing : Obligations.RefusedCommandChangesNothing := by
  unfold Obligations.RefusedCommandChangesNothing
  intro i p code x params s t row executes run head bad
  obtain ⟨cmd, rule, exec_⟩ := exec_command row
  rw [exec_, runCommand_eq cmd executes] at run
  have answer := answerOf_fair (code := code) (lookup_fair rule) p params s
  generalize answerOf code cmd p params s = r at answer run
  cases run
  cases answer with
  | refused c _ =>
    obtain rfl : c.code = x := by simpa [deliver] using head
    rfl
  | completed _ _ _ => exact absurd (show Completion.ok.code = x by simpa [deliver] using head) fun e => bad e.symm

end Sys2Proof.Machine
end

section
/-! PROOF. What every command keeps (O2, O57 to O60), with the accesses of a port, the searches, the supply, the starts and the
idle step; the journal and the collections over all commands (O56); and the state after reset (O7). -/

namespace Sys2Proof.Machine

/-! ### The accesses of a port (Section 9) -/

theorem quiet_takeCommandCode {p : Port} {b : Byte} {s : State} (idle : (s.port p).phase = .commandIdle) :
    Quiet s (takeCommandCode p b s) := by
  have empty : ((s.port p).phase = .result ↔ (s.port p).result ≠ []) → (s.port p).result = [] := fun h => by
    simpa [idle] using h
  unfold takeCommandCode
  dsimp only
  split
  · exact quiet_putPort ⟨id, fun _ => by simp⟩
  · exact quiet_putPort ⟨id, fun h => by simp only [empty h]; split <;> simp⟩

theorem quiet_takeParameter {p : Port} {b : Byte} {s : State} (params : (s.port p).phase = .commandParams) :
    Quiet s (takeParameter p b s) := by
  have empty : ((s.port p).phase = .result ↔ (s.port p).result ≠ []) → (s.port p).result = [] := fun h => by
    simpa [params] using h
  exact quiet_putPort ⟨id, fun h => by simp only [empty h]; split <;> simp⟩

theorem quiet_disregard (p : Port) (s : State) : Quiet s (disregard p s) := quiet_putPort ⟨id, id⟩
theorem quiet_returnByte (p : Port) (b : Byte) (s : State) : Quiet s (returnByte p b s) := quiet_putPort ⟨id, id⟩

theorem quiet_dataWrite (p : Port) (b : Byte) (s : State) : Quiet s (dataWrite p b s) := by
  unfold dataWrite
  split
  · split
    · exact quiet_takeCommandCode ‹_›
    · exact quiet_takeParameter ‹_›
    · exact quiet_disregard ..
    · exact quiet_disregard ..
  · exact .refl s

theorem quiet_takeResultByte (p : Port) (s : State) : Quiet s (takeResultByte p s) := by
  have taken : PortKept (s.port p) { s.port p with
      result := (s.port p).result.tail,
      phase := if (s.port p).result.tail.isEmpty then .commandIdle else .result } :=
    ⟨id, fun _ => by cases (s.port p).result.tail <;> simp⟩
  exact (quiet_putPort taken).trans (quiet_returnByte p _ _)

theorem quiet_dataRead (p : Port) (s : State) : Quiet s (dataRead p s) := by
  have disregarded := (quiet_disregard p s).trans (quiet_returnByte p 0xFF#8 _)
  unfold dataRead
  split
  · split
    · exact disregarded
    · exact disregarded
    · exact disregarded
    · exact quiet_takeResultByte ..
  · exact .refl s

theorem quiet_resetPort (p : Port) (s : State) : Quiet s (resetPort p s) :=
  (quiet_putPort (x := (s.port p).cleared) ⟨fun _ => by simp [PortState.cleared], fun _ => by simp [PortState.cleared]⟩).trans
    (quiet_endSlots ..)

theorem whole_onPortReset (p : Port) (s : State) : Whole s (onPortReset p s) := by
  unfold onPortReset
  split
  · split
    · exact (whole_runBuffered p s).quiet (quiet_resetPort ..)
    · exact (quiet_resetPort ..).whole
  · exact .refl s

theorem whole_busCycle (p : Port) (c : BusCycle) (s : State) : Whole s (busCycle p c s) := by
  unfold busCycle
  split
  · exact .refl s
  · exact .refl s
  · unfold statusWrite
    split
    · exact whole_onPortReset p s
    · exact .refl s
  · exact (quiet_dataRead p s).whole
  · exact (quiet_dataWrite ..).whole

theorem quiet_onFindDone (p : Port) (s : State) : Quiet s (onFindDone p s) := by
  unfold onFindDone
  split
  · refine .ite (fun _ => ?_) fun _ => .refl s
    split <;> exact quiet_endSearch ..
  · exact .refl s

/-! ### The idle step -/

theorem quiet_finishSending (s : State) : Quiet s (finishSending s) := by
  unfold finishSending
  exact .ite (fun _ => quiet_onSlip (by simp) (by simp)) fun _ => .refl s

theorem whole_tickSecond (s : State) : Whole s (tickSecond s) := by
  unfold tickSecond
  split
  · rename_i more
    have ticked : Quiet s { s with clock := { s.clock with second := s.clock.second + 1 } } :=
      quiet_clock fun h => ⟨h.1, h.2.1, more⟩
    exact ticked.whole
  · exact whole_onNewMinute s

theorem quiet_examineSearches (s : State) : Quiet s (examineSearches s) := by
  unfold examineSearches
  exact .ite (fun _ => quiet_ports _ fun p => by cases p <;> exact ⟨id, id⟩) fun _ => .refl s

theorem kept_idleStep (s : State) : Kept s (idleStep s) :=
  ((quiet_finishSending s).whole.toKept.trans (whole_tickSecond _).toKept).trans (quiet_examineSearches _).whole.toKept

/-! ### Every command but those of the supply and the confirmation -/

/-- The rows that may take records away, or move the PFAIL input or the supply. -/
def isApart : Instr → Bool
  | .ackFrame _ => true
  | .start _ _ => true
  | .pfailRise => true
  | .pfailFall => true
  | .resetAssert _ => true
  | .powerLoss _ _ => true
  | _ => false

theorem exec_whole {c : Instr} (within : isApart c = false) (s : State) : ∃ t, exec c s = .next t ∧ Whole s t := by
  cases row : commandOf c with
  | some pc =>
    obtain ⟨cmd, rule, exec_⟩ := exec_command row
    exact ⟨_, exec_ s, whole_runCommand (lookup_fair rule) _ s⟩
  | none =>
    cases c
    case ackFrame => cases within
    case start => cases within
    case pfailRise => cases within
    case pfailFall => cases within
    case resetAssert => cases within
    case powerLoss => cases within
    case unknownCommand p b => exact ⟨_, rfl, (quiet_dataWrite p b s).whole⟩
    case parameterByteWrite p b => exact ⟨_, rfl, (quiet_dataWrite p b s).whole⟩
    case commandCodeTaken p b => exact ⟨_, rfl, (quiet_dataWrite p b s).whole⟩
    case resultByteRead p => exact ⟨_, rfl, (quiet_dataRead p s).whole⟩
    case disregardedAccess p cycle => exact ⟨_, rfl, whole_busCycle p cycle s⟩
    case portReset p => exact ⟨_, rfl, whole_onPortReset p s⟩
    case acquisitionStart st => exact ⟨_, rfl, (quiet_onAcquisitionStart st s).whole⟩
    case acquisitionAbandon st => exact ⟨_, rfl, (quiet_onAcquisitionAbandon st s).whole⟩
    case elementMeasured st ticks => exact ⟨_, rfl, (quiet_onElementMeasured st ticks s).whole⟩
    case quietReached st => exact ⟨_, rfl, (quiet_onQuietReached st s).whole⟩
    case decodeSymbol st ms => exact ⟨_, rfl, (quiet_onDecodeSymbol st ms s).whole⟩
    case presenceSample levels => exact ⟨_, rfl, (quiet_onPresenceSample levels s).whole⟩
    case patternEnd st => exact ⟨_, rfl, (quiet_onPatternEnd st s).whole⟩
    case patronStep st => exact ⟨_, rfl, (quiet_onPatronStep st s).whole⟩
    case checkoutStep st => exact ⟨_, rfl, whole_onCheckoutStep st s⟩
    case returnStep st => exact ⟨_, rfl, whole_onReturnStep st s⟩
    case renewStep st => exact ⟨_, rfl, whole_onRenewStep st s⟩
    case secondCard st => exact ⟨_, rfl, (quiet_onSecondCard st s).whole⟩
    case ignoredCode st => exact ⟨_, rfl, (quiet_onIgnoredCode st s).whole⟩
    case wrongCodeRefusal st => exact ⟨_, rfl, (quiet_onWrongCode st s).whole⟩
    case inactivityTimeout st => exact ⟨_, rfl, (quiet_onInactivityTimeout st s).whole⟩
    case findDone p => exact ⟨_, rfl, (quiet_onFindDone p s).whole⟩
    case wakeComplete => exact ⟨_, rfl, (quiet_onWakeComplete s).whole⟩
    case linePrinted => exact ⟨_, rfl, (quiet_onLinePrinted s).whole⟩
    case paperOut => exact ⟨_, rfl, (quiet_onPaperOut s).whole⟩
    case paperRestored => exact ⟨_, rfl, (quiet_onPaperRestored s).whole⟩
    case idleTimerExpiry => exact ⟨_, rfl, (quiet_onIdleTimerExpiry s).whole⟩
    case settleComplete => exact ⟨_, rfl, (quiet_onSettleComplete s).whole⟩
    case newMinute => exact ⟨_, rfl, whole_onNewMinute s⟩
    case retryExpiry => exact ⟨_, rfl, (quiet_onRetryExpiry s).whole⟩
    case gapWon => exact ⟨_, rfl, (quiet_onGapWon s).whole⟩
    case noLine => exact ⟨_, rfl, (quiet_onNoLine s).whole⟩
    case collision => exact ⟨_, rfl, (quiet_onCollision s).whole⟩
    case backoffEnd => exact ⟨_, rfl, (quiet_onBackoffEnd s).whole⟩
    case jamEnd => exact ⟨_, rfl, (quiet_onJamEnd s).whole⟩
    case lineActivity => exact ⟨_, rfl, (quiet_onLineActivity s).whole⟩
    case gapCommitted => exact ⟨_, rfl, (quiet_onGapCommitted s).whole⟩
    case randomGeneratorStep => exact ⟨_, rfl, whole_onRandomGeneratorStep s⟩
    case frameAbandoned cause => exact ⟨_, rfl, .refl s⟩
    case dataFrameSent => exact ⟨_, rfl, (quiet_onDataFrameSent s).whole⟩
    case pollSent => exact ⟨_, rfl, (quiet_onPollSent s).whole⟩
    case busyFrame f => exact ⟨_, rfl, (quiet_onBusyFrame f s).whole⟩
    case endFrame f => exact ⟨_, rfl, whole_onEndFrame f s⟩
    case replyTimeout => exact ⟨_, rfl, (quiet_onReplyTimeout s).whole⟩
    case updateFrame f => exact ⟨_, rfl, whole_onUpdateFrame f s⟩
    case broadcastUpdate f => exact ⟨_, rfl, whole_onBroadcastUpdate f s⟩
    case replyDelayEnd => exact ⟨_, rfl, (quiet_onReplyDelayEnd s).whole⟩
    case replySent => exact ⟨_, rfl, (quiet_onReplySent s).whole⟩
    case replyCollision => exact ⟨_, rfl, (quiet_onReplyCollision s).whole⟩
    all_goals cases row

/-! ### PFAIL (R37, R62, R111) -/

theorem kept_pfail (s : State) (level : Bool) : Kept s { s with pfail := level } :=
  ⟨⟨rfl, id, id, fun ⟨b, r⟩ => ⟨⟨b.events, b.scans, b.lines, b.slips⟩, r⟩, id, fun g => ⟨g.rm, g.commit, g.clock⟩⟩,
    fun d => ⟨d.owned, d.waits⟩, id, id⟩

theorem quiet_takePendingReopen (st : Station) (s : State) : Quiet s (takePendingReopen st s) := by
  unfold takePendingReopen
  split
  · rename_i waits _
    refine ((quiet_clearReopen st s).trans (quiet_restartTimer ..)).trans (quiet_patronStepOf ?_)
    simp [restartTimer, clearReopen, waits]
  · exact .refl s

theorem writes_onPfailFall (s : State) : Writes { s with pfail := false } (onPfailFall s) := by
  unfold onPfailFall
  dsimp only
  split
  · refine Writes.trans ?_ (quiet_foldl _ (fun t st => quiet_takePendingReopen st t) ..).writes
    split
    · exact (quiet_flags ..).writes.trans (writes_purge _)
    · exact .refl _
  · exact .refl _

theorem onPfailFall_length (s : State) : (onPfailFall s).rm.journal.length = s.rm.journal.length := by
  unfold onPfailFall
  dsimp only
  split
  · rw [length_of_content (quiet_foldl _ (fun t st => quiet_takePendingReopen st t) ..).content]
    split <;> rfl
  · rfl

theorem kept_onPfailFall (s : State) : Kept s (onPfailFall s) :=
  (kept_pfail s false).trans ((writes_onPfailFall s).whole rfl (onPfailFall_length s)).toKept

/-! ### Reset and loss of power (R36, R191) -/

theorem kept_runUnderWay (u : UnderWay) (s : State) : Kept s (runUnderWay u s) := by
  cases u with
  | checkoutStep st => exact (whole_onCheckoutStep st s).toKept
  | returnStep st => exact (whole_onReturnStep st s).toKept
  | renewStep st => exact (whole_onRenewStep st s).toKept
  | command p => exact (whole_runBuffered p s).toKept
  | ackFrame f => exact kept_onAckFrame f s
  | updateFrame f => exact (whole_onUpdateFrame f s).toKept
  | broadcastUpdate f => exact (whole_onBroadcastUpdate f s).toKept
  | endFrame f => exact (whole_onEndFrame f s).toKept
  | newMinute => exact (whole_onNewMinute s).toKept
  | pfailFall => exact kept_onPfailFall s

/-- A step cut off leaves the clock and the PFAIL input as it moved them, and what its commit area holds. -/
theorem kept_cut {s t : State} (h : Kept s t) (area : CommitArea) (image : ∀ c, area = .complete c → c = t.rm) :
    Kept s { s with clock := t.clock, pfail := t.pfail, commit := area } :=
  ⟨⟨rfl, h.clock, id, fun ⟨b, r⟩ => ⟨⟨b.events, b.scans, b.lines, b.slips⟩, r⟩, id,
      fun g => ⟨g.rm, fun c hc => image c hc ▸ (h.records g).rm, h.clock g.clock⟩⟩,
    fun d => ⟨d.owned, d.waits⟩, id, id⟩

theorem kept_applyCut (cut : Cut) (s : State) : Kept s (applyCut cut s) := by
  cases cut with
  | between => exact (Whole.refl s).toKept
  | filling u => exact kept_cut (kept_runUnderWay u s) .incomplete fun c h => by cases h
  | complete u => exact kept_cut (kept_runUnderWay u s) _ fun c h => by cases h; rfl
  | settingTorn p =>
    have run := whole_runBuffered p s
    exact ⟨⟨rfl, id, id, fun ⟨b, r⟩ => ⟨⟨b.events, b.scans, b.lines, b.slips⟩, r⟩, id, fun g => ⟨g.rm, g.commit, g.clock⟩⟩,
      fun d => ⟨fun st busy => (run.owners st busy).trans_ne (d.owned st busy), d.waits⟩, id, run.settings⟩

theorem stopPart_station (s : State) (st : Station) : (stopPart s).station st = silence (s.station st) := by cases st <;> rfl

theorem quiet_stopPart (s : State) : Quiet s (stopPart s) where
  pending := rfl
  clock := id
  random := id
  queues := fun ⟨b, r⟩ => ⟨⟨b.events, fun st => by rw [stopPart_station]; exact b.scans st, b.lines, b.slips⟩, r⟩
  sent := id
  records g := ⟨g.rm, g.commit, g.clock⟩
  content := rfl
  armed := rfl
  pfail := rfl
  config := rfl
  desk d := ⟨d.owned, d.waits⟩
  night n dark st := by rw [stopPart_station]; exact n dark st

theorem kept_cutOff (cut : Cut) (s : State) : Kept s (cutOff cut s) := by
  unfold cutOff
  split
  · exact (kept_applyCut cut s).trans (quiet_stopPart _).whole.toKept
  · exact (quiet_stopPart s).whole.toKept

theorem kept_onResetAssert (cut : Cut) (s : State) : Kept s (onResetAssert cut s) :=
  (kept_cutOff cut s).trans (quiet_flags ..).whole.toKept

theorem kept_onPowerLoss (cut : Cut) (kept : Bool) (s : State) : Kept s (onPowerLoss cut kept s) :=
  (kept_cutOff cut s).trans (quiet_flags ..).whole.toKept

theorem applyCut_rm (cut : Cut) (s : State) : (applyCut cut s).rm = s.rm := by cases cut <;> rfl
theorem applyCut_armed (cut : Cut) (s : State) : (applyCut cut s).armed = s.armed := by cases cut <;> rfl

theorem cutOff_rm (cut : Cut) (s : State) : (cutOff cut s).rm = s.rm := by
  unfold cutOff stopPart
  dsimp only
  split
  · exact applyCut_rm ..
  · rfl

theorem cutOff_armed (cut : Cut) (s : State) : (cutOff cut s).armed = s.armed := by
  unfold cutOff stopPart
  dsimp only
  split
  · exact applyCut_armed ..
  · rfl

/-! ### Starts (R191 to R193) -/

theorem randomSeed_ne_zero (address minute : Nat) : randomSeed address minute ≠ 0 := by
  unfold randomSeed
  split
  · decide
  · rename_i ne
    intro zero
    exact ne (by simpa using congrArg BitVec.toNat zero)

theorem rising_nil {α : Type} (key : α → Nat) : Rising key ([] : List α) := List.Pairwise.nil

theorem good_fresh : Collections.fresh.Good where
  canonical := ⟨Nat.zero_le _, ⟨rising_nil _, Nat.zero_le _⟩, ⟨rising_nil _, Nat.zero_le _⟩, ⟨rising_nil _, Nat.zero_le _⟩,
    ⟨List.nodup_nil, Nat.zero_le _⟩, ⟨rising_nil _, Nat.zero_le _⟩⟩
  numbered := ⟨by decide, fun i r h => (by cases h)⟩
  sound := ⟨fun b => (by simp [Collections.fresh]), fun l h => (by cases h), fun f h => (by cases h)⟩

theorem cold_legal : Clock.cold.Legal := ⟨by decide, by decide, by decide⟩

theorem const_fresh_slot (st : Station) : (PerStation.const Slot.fresh).get st = Slot.fresh := PerStation.get_const ..

/-- The slots and the SLIP UNIT after a start. -/
theorem desk_started {s : State} (slots : s.slots = PerStation.const Slot.fresh) (waiting : s.slip.waiting = []) : s.Desk := by
  have idle : ∀ st, (s.slot st).state = .idle := fun st => by rw [State.slot, slots, const_fresh_slot]; rfl
  exact ⟨fun st busy => absurd (idle st) busy, by rw [waiting]; exact List.nodup_nil, fun st => by simp [waiting, idle]⟩

theorem night_started {s : State} (slots : s.slots = PerStation.const Slot.fresh)
    (stations : s.stations = PerStation.const WandStation.fresh) : s.NightClosed := fun _ st => by
  rw [State.slot, slots, const_fresh_slot, State.station, stations, PerStation.get_const]
  exact ⟨rfl, rfl, rfl⟩

/-- The queues after a start. -/
theorem queues_started {s : State} (slots : s.slots = PerStation.const Slot.fresh)
    (stations : s.stations = PerStation.const WandStation.fresh) (slips : s.slip.queue = [])
    (ports : ∀ p, (s.port p).events.length ≤ 8 ∧ (s.port p).lost = 0 ∧ (s.port p).phase = .commandIdle ∧ (s.port p).result = []) :
    s.Bounded ∧ s.ResultsMatch := by
  refine ⟨⟨fun p => ⟨(ports p).1, by rw [(ports p).2.1]; omega⟩, fun st => ?_, fun st => ?_, by rw [slips]; simp⟩, fun p => ?_⟩
  · rw [State.station, stations, PerStation.get_const]; simp [WandStation.fresh]
  · rw [State.slot, slots, const_fresh_slot]; simp [Slot.fresh]
  · simp [(ports p).2.2.1, (ports p).2.2.2]

theorem kept_coldStart (roleA roleB : Role) (s : State) : Kept s (coldStart roleA roleB s) where
  pending := rfl
  clock _ := cold_legal
  random _ := show (257#16 : Word16) ≠ 0 by decide
  queues _ := queues_started rfl rfl rfl (by rintro (_ | _) <;> exact ⟨by simp [State.port, coldStart, PerPort.get, PortState.coldStarted], rfl, rfl, rfl⟩)
  sent _ := sentFirst_of_unsent (fun r h => (by cases h)) fun h => (by cases h)
  records _ := ⟨good_fresh, fun _ h => (by cases h), cold_legal⟩
  desk _ := desk_started rfl rfl
  night _ := night_started rfl rfl
  settings _ := inRange_factory

theorem recoverCommit_good {s : State} (g : s.Good) : (recoverCommit s).rm.Good := by
  unfold recoverCommit
  split
  · exact g.commit _ ‹_›
  · exact g.rm

theorem recoverCommit_eq (s : State) : recoverCommit s = { s with rm := (recoverCommit s).rm, commit := .empty } := by
  unfold recoverCommit; split <;> rfl

/-- What a warm start works on: the record memory brought up, every record PENDING, the settings checked (R33, R36, R193). -/
def recovered (s : State) : State := checkSettings (unsend (recoverCommit s))

theorem recovered_eq (s : State) : recovered s = { s with
    rm := (unsend (recoverCommit s)).rm, commit := .empty, config := (recovered s).config, checkWord := (recovered s).checkWord } := by
  unfold recovered checkSettings
  rw [recoverCommit_eq]
  split <;> rfl

theorem recovered_settings (s : State) (h : SettingsInRange s.config) : SettingsInRange (recovered s).config := by
  unfold recovered checkSettings
  rw [recoverCommit_eq]
  split
  · exact h
  · exact inRange_factory

theorem startedLink_random (s : State) : (startedLink s).random ≠ 0 := by
  unfold startedLink
  dsimp only
  split
  · exact randomSeed_ne_zero _ _
  · exact randomSeed_ne_zero _ _

theorem startedLink_jam (s : State) : (startedLink s).jam = none := by
  unfold startedLink
  dsimp only
  split <;> rfl

theorem kept_freshWorking (roleA roleB : Role) (s : State) : Kept s (freshWorking roleA roleB (recovered s)) where
  pending := by rw [recovered_eq]; rfl
  clock h := by rw [recovered_eq]; exact h
  random _ := startedLink_random _
  queues _ := queues_started rfl rfl rfl fun p => by cases p <;> exact ⟨by simp [State.port, freshWorking, PerPort.get, PortState.fresh], rfl, rfl, rfl⟩
  sent _ := sentFirst_of_unsent
    (by rw [show (freshWorking roleA roleB (recovered s)).rm = (unsend (recoverCommit s)).rm by rw [recovered_eq]; rfl]
        exact unsend_unsent _)
    fun h => absurd h (by rw [show (freshWorking roleA roleB (recovered s)).link = startedLink (recovered s) from rfl, startedLink_jam]
                          simp)
  records g := by
    rw [recovered_eq]
    exact ⟨Collections.Good.of_content (unsend_content _) (recoverCommit_good g), fun _ h => (by cases h), g.clock⟩
  desk _ := desk_started rfl rfl
  night _ := night_started rfl rfl
  settings := recovered_settings s

theorem kept_warmStart (roleA roleB : Role) (s : State) : Kept s (warmStart roleA roleB s) :=
  ((kept_freshWorking roleA roleB s).trans (quiet_postAll ..).whole.toKept).trans (kept_highWater _)

theorem kept_onStart (roleA roleB : Role) (s : State) : Kept s (onStart roleA roleB s) := by
  unfold onStart
  split
  · exact (Whole.refl s).toKept
  · split
    · exact kept_coldStart ..
    · exact kept_warmStart ..

/-! ### Every command -/

theorem exec_kept (c : Instr) (s : State) : ∃ t, exec c s = .next t ∧ Kept s t := by
  cases apart : isApart c with
  | false =>
    obtain ⟨t, run, whole⟩ := exec_whole apart s
    exact ⟨t, run, whole.toKept⟩
  | true =>
    cases c
    case ackFrame f => exact ⟨_, rfl, kept_onAckFrame f s⟩
    case start a b => exact ⟨_, rfl, kept_onStart a b s⟩
    case pfailRise => exact ⟨_, rfl, kept_pfail s true⟩
    case pfailFall => exact ⟨_, rfl, kept_onPfailFall s⟩
    case resetAssert cut => exact ⟨_, rfl, kept_onResetAssert cut s⟩
    case powerLoss cut backup => exact ⟨_, rfl, kept_onPowerLoss cut backup s⟩
    all_goals cases apart

/-- The invariants of a state, the queue of waiting commands apart. -/
theorem step_kept {s t : State} (h : step s = .next t) : Kept { s with pending := t.pending } t := by
  unfold step at h
  split at h
  · rename_i c rest _
    obtain ⟨u, run, kept⟩ := exec_kept c { s with pending := rest }
    rw [run] at h
    cases h
    rw [kept.pending]
    exact kept
  · cases h
    rw [(kept_idleStep s).pending]
    exact kept_idleStep s

/-- Settles O2: every command runs and keeps the queue of waiting commands. -/
theorem everyCommandRunsAndKeepsTheQueue : Obligations.EveryCommandRunsAndKeepsTheQueue := by
  unfold Obligations.EveryCommandRunsAndKeepsTheQueue
  intro c s
  obtain ⟨t, run, kept⟩ := exec_kept c s
  exact ⟨t, run, kept.pending⟩

/-- Settles O57: the record memory, the commit area and the clock are kept together, the parts of a step in `Writes`, a confirmation in
`good_confirm`. -/
theorem recordMemoryStaysCanonical : Obligations.RecordMemoryStaysCanonical := by
  unfold Obligations.RecordMemoryStaysCanonical
  intro s t ⟨canonical, numbered, sound, clock⟩ run
  have before : State.Good { s with pending := t.pending } := ⟨⟨canonical.1, numbered.1, sound.1⟩,
    fun image h => ⟨canonical.2 image h, numbered.2 image h, sound.2 image h⟩, clock⟩
  obtain ⟨rm, commit, clock'⟩ := (step_kept run).records before
  exact ⟨⟨rm.canonical, fun image h => (commit image h).canonical⟩, ⟨rm.numbered, fun image h => (commit image h).numbered⟩,
    ⟨rm.sound, fun image h => (commit image h).sound⟩, clock'⟩

/-- Settles O58: SENT records begin only as a gap is won, and every way out of SEND-DATA and AWAIT-ACK takes them back to PENDING. -/
theorem sentRecordsStayTheOldest : Obligations.SentRecordsStayTheOldest := by
  unfold Obligations.SentRecordsStayTheOldest
  intro s t sent run
  exact (step_kept run).sent sent

/-- Settles O59: the owners and the closing-wait list, and NIGHT, over every step. -/
theorem slotsStayLawful : Obligations.SlotsStayLawful := by
  unfold Obligations.SlotsStayLawful
  intro s t ⟨night, owned, waits⟩ run
  have kept := step_kept run
  have desk := kept.desk ⟨owned, waits⟩
  exact ⟨kept.night night, desk.owned, desk.waits⟩

/-- Settles O60: the queues with the results, the clock with the generator, and the settings, over every step. -/
theorem queuesClockAndGeneratorStayLegal : Obligations.QueuesClockAndGeneratorStayLegal := by
  unfold Obligations.QueuesClockAndGeneratorStayLegal
  refine ⟨fun s t h run => ?queues, fun s t h run => ?clock, fun s t h run => ?settings⟩
  case queues =>
    obtain ⟨bounded, results⟩ := h
    exact (step_kept run).queues ⟨⟨bounded.events, bounded.scans, bounded.lines, bounded.slips⟩, results⟩
  case clock => exact ⟨(step_kept run).clock h.1, (step_kept run).random h.2⟩
  case settings => exact (step_kept run).settings h

/-- Settles O7: the state after reset, part by part. -/
theorem resetMeetsEveryInvariant : Obligations.ResetMeetsEveryInvariant := by
  unfold Obligations.ResetMeetsEveryInvariant
  have none : ∀ image, State.reset.commit ≠ .complete image := fun _ h => by cases h
  have good := good_fresh
  have desk : State.reset.Desk := desk_started rfl rfl
  have queues : State.reset.Bounded ∧ State.reset.ResultsMatch :=
    queues_started rfl rfl rfl fun p => by cases p <;> exact ⟨by decide, rfl, rfl, rfl⟩
  exact ⟨⟨good.canonical, fun i h => absurd h (none i)⟩, ⟨good.numbered, fun i h => absurd h (none i)⟩,
    ⟨good.sound, fun i h => absurd h (none i)⟩, sentFirst_of_unsent (fun r h => (by cases h)) fun h => (by cases h),
    night_started rfl rfl, desk.owned, desk.waits, queues.1, queues.2, cold_legal, by decide, inRange_factory⟩

/-! ### The journal and the collections over all commands (R30, R37, R38) -/

theorem acceptedAck_frozen {f : List Byte} {s : State} (power : s.pfail = true) : (onAckFrame f s).rm.content = s.rm.content := by
  have heard := quiet_heardActivity f s
  unfold onAckFrame
  dsimp only
  split
  · rw [if_pos power]; exact heard.content
  · exact heard.content

theorem endOfStep_eq (s : State) : s.endOfStep = highWater s := by
  unfold State.endOfStep highWater Config.highWaterMark
  by_cases h : s.armed = true ∧ 3584 ≤ s.rm.journal.length
  · rw [if_pos h, if_pos (by simpa using h)]; rfl
  · rw [if_neg h, if_neg (by simpa using h)]

/-- JOURNAL-HIGH (R38), each port's role read before either has its event. -/
theorem endOfStep_high {s : State} (armed : s.armed = true) (high : 3584 ≤ s.rm.journal.length) :
    let e : Event := ⟨.journalHigh, none, none, some (.number s.rm.journal.length), none⟩
    let a := if (s.port .A).role = .staff then post .A e s else s
    let b := if (s.port .B).role = .staff then post .B e a else a
    s.endOfStep = { b with armed := false } := by
  intro e a b
  have role : (a.port .B).role = (s.port .B).role := by
    show ((if (s.port .A).role = .staff then post .A e s else s).port .B).role = _
    split <;> rfl
  unfold State.endOfStep
  rw [if_pos ⟨armed, high⟩]
  show { (if (a.port .B).role = .staff then post .B e a else a) with armed := false } = _
  rw [role]

theorem highWater_of_disarmed {s : State} (h : s.armed = false) : highWater s = s := by
  unfold highWater; simp [h]

/-- Settles O56: what `Whole` says of every command but those apart, which are taken one by one; and the end of a step. -/
theorem journalGrowsAndCollectionsHold : Obligations.JournalGrowsAndCollectionsHold := by
  unfold Obligations.JournalGrowsAndCollectionsHold
  refine ⟨fun c s t power notFall run => ?frozen, fun c s t notAck notStart run => ?grows, fun s => ⟨fun armed high => ?told, fun low => ?same⟩⟩
  case frozen =>
    cases apart : isApart c with
    | false =>
      obtain ⟨u, run', whole⟩ := exec_whole apart s
      rw [run'] at run; cases run
      exact whole.frozen power
    | true =>
      cases c
      case ackFrame f => cases run; exact acceptedAck_frozen power
      case start a b => cases run; rw [onStart, if_pos (.inr power)]
      case pfailRise => cases run; rfl
      case pfailFall => exact absurd rfl notFall
      case resetAssert cut => cases run; exact congrArg Collections.content (cutOff_rm cut s)
      case powerLoss cut backup => cases run; exact congrArg Collections.content (cutOff_rm cut s)
      all_goals cases apart
  case grows =>
    show Grows s t ∧ ArmedFollows s t
    cases apart : isApart c with
    | false =>
      obtain ⟨u, run', whole⟩ := exec_whole apart s
      rw [run'] at run; cases run
      exact ⟨whole.grows, whole.armed⟩
    | true =>
      have stands : ∀ u : State, u.rm = s.rm → u.armed = s.armed → Grows s u ∧ ArmedFollows s u := fun u rm armed =>
        ⟨.of_content (by rw [rm]), .of_length (by rw [rm]) armed⟩
      cases c
      case ackFrame f => exact absurd rfl (notAck f)
      case start a b => exact absurd rfl (notStart a b)
      case pfailRise => cases run; exact stands _ rfl rfl
      case pfailFall => cases run; exact ⟨(writes_onPfailFall s).grows, .of_length (onPfailFall_length s) (writes_onPfailFall s).armed⟩
      case resetAssert cut => cases run; exact stands _ (cutOff_rm cut s) (cutOff_armed cut s)
      case powerLoss cut backup => cases run; exact stands _ (cutOff_rm cut s) (cutOff_armed cut s)
      all_goals cases apart
  case told =>
    refine ⟨endOfStep_high armed high, ?_⟩
    rw [endOfStep_eq, endOfStep_eq]
    exact highWater_of_disarmed (by simp [highWater_armed, high])
  case same =>
    refine if_neg fun ⟨armed, high⟩ => ?_
    rcases low with low | low
    · rw [low] at armed; cases armed
    · omega

end Sys2Proof.Machine
end

section
/-! PROOF. The answers of a command at its row, and the commands of the ports and the wand stations: O9, O13, O14, O16; one step (O1). -/

namespace Sys2Proof.Machine

/-! ### The answer of a row -/

/-- The role of the port lets the command reach its own rule (R180). -/
def State.lets (s : State) (p : Port) (code : Byte) : Prop := staffOnly code = false ∨ (s.port p).role = .staff

/-- A row leaves the answer of its rule in the port. -/
theorem Executing.answers {s : State} {p : Port} {code : Byte} {params : List Byte} {i : Instr} {r : Answer}
    (h : Executing s p code params) (cmd : Command) (may : s.lets p code) (answer : cmd p params s = r)
    (row : exec i s = .next (runCommand code cmd p s) := by exact rfl) : exec i s = .next (deliver p r) := by
  rw [row, runCommand_eq cmd h]
  rcases may with either | staff
  · rw [answerOf_allowed cmd (.inl either), answer]
  · rw [answerOf_staff cmd staff, answer]

/-- The STAFF-only codes but that of OVERRIDE BLOCK (TABLE 9-4). -/
def staffCodes : List Byte :=
  [0x10#8, 0x14#8, 0x33#8, 0x34#8, 0x35#8, 0x36#8, 0x37#8, 0x40#8, 0x42#8, 0x43#8, 0x44#8, 0x45#8, 0x46#8, 0x47#8, 0x49#8, 0x53#8,
    0x54#8, 0x60#8, 0x61#8, 0x63#8, 0x70#8]

/-- Settles O9: the permission check comes before the rule of each code listed. -/
theorem staffOnlyRefusedAtKiosk : Obligations.StaffOnlyRefusedAtKiosk := by
  unfold Obligations.StaffOnlyRefusedAtKiosk
  intro i p code params s row listed executes kiosk
  obtain ⟨cmd, _, exec_⟩ := exec_command row
  have only : staffOnly code = true ∧ code ≠ overrideCode :=
    (show ∀ c ∈ staffCodes, staffOnly c = true ∧ c ≠ overrideCode by decide) code listed
  rw [exec_, runCommand_eq cmd executes, answerOf_kiosk cmd only.1 only.2 kiosk]
  rfl

/-! ### The event queue (O13) -/

theorem length_codeOrAbsent (c : Option Code) : (codeOrAbsent c).length = 7 := by cases c <;> rfl
theorem length_be16OrAbsent (n : Option Nat) : (be16OrAbsent n).length = 2 := by cases n <;> rfl

theorem length_eventValue (v : EventValue) : v.bytes.length = 4 := by
  cases v with
  | due day minute => simp [EventValue.bytes, be16, length_be16OrAbsent]
  | amount n => rfl
  | number n => rfl
  | counts a b => rfl

theorem length_eventBytes (e : Event) : e.bytes.length = 14 := by
  obtain ⟨kind, station, code, value, reason⟩ := e
  have codes := length_codeOrAbsent code
  cases station <;> cases reason <;> cases value with
  | none => simp [Event.bytes, absent, codes]
  | some v => simp [Event.bytes, absent, codes, length_eventValue v]

theorem setAttention_byte (p : Port) (b : Byte) (s : State) : setAttention p [b] s =
    if b = 0x00#8 then done [] (s.putPort p { s.port p with attention := false })
    else if b = 0x01#8 then done [] (s.putPort p { s.port p with attention := true })
    else refuse .badParameter s := by
  unfold setAttention
  rw [byteAt_cons]
  unfold boolOfByte
  by_cases off : b = 0x00#8
  · rw [if_pos off, if_pos off]
  · rw [if_neg off, if_neg off]
    by_cases on : b = 0x01#8
    · rw [if_pos on, if_pos on]
    · rw [if_neg on, if_neg on]

/-- Settles O13: the two commands by their rules, and an event offered to a queue with a place, full, and with its count at the top. -/
theorem eventQueueAndAttention : Obligations.EventQueueAndAttention := by
  unfold Obligations.EventQueueAndAttention
  refine ⟨fun p s => ⟨fun b h => ?attention, fun h empty => ?empty, fun e rest h queue => ⟨?take, length_eventBytes e⟩⟩,
    fun p e s => ⟨fun room => ?joins, fun full more => ?counted, fun full top => ?topped⟩⟩
  case attention =>
    rw [h.answers setAttention (.inl rfl) (setAttention_byte p b s)]
    split_ifs <;> rfl
  case empty => exact h.answers takeEvent (.inl rfl) (show takeEvent p [] s = refuse .empty s by unfold takeEvent; rw [empty])
  case take => exact h.answers takeEvent (.inl rfl) (show takeEvent p [] s = done e.bytes (s.putPort p { s.port p with events := rest }) by
      unfold takeEvent; rw [queue])
  case joins => rw [post, PortState.offer, Config.eventQueueMax, if_pos room]
  case counted => rw [post, offer_full e full]; simp [Nat.min_eq_right more]
  case topped =>
    have same : (s.port p).offer e = s.port p := by
      rw [offer_full e full, top, show min 255 (255 + 1) = 255 from rfl, ← top]
    rw [post, same, State.putPort_self]

/-! ### The commands of the stations (O14, O16) -/

theorem ownerCode_eq (o : Option Port) :
    ownerCode o = match o with | some .A => 0x00#8 | some .B => 0x01#8 | none => 0xFF#8 := by
  rcases o with _ | _ | _ <;> rfl

theorem modeByte_eq (m : Option TxMode) :
    modeByte m = match m with | some .checkout => 0x00#8 | some .returning => 0x01#8 | some .renewing => 0x02#8 | none => 0xFF#8 := by
  rcases m with _ | _ | _ | _ <;> rfl

/-- Settles O14: the two rows by their rules; the codes that wait are bounded by the invariant. -/
theorem stationAndTransactionStatus : Obligations.StationAndTransactionStatus := by
  unfold Obligations.StationAndTransactionStatus
  refine ⟨fun p s => ⟨fun n h bad => ?badStation, fun st h => ⟨?station, fun bounded => bounded.scans st⟩⟩,
    fun p s => ⟨fun n h bad => ?badSlot, fun st h => ?slot⟩⟩
  case badStation => exact h.answers stationStatus (.inl rfl) (withStation_bad bad ..)
  case station =>
    rw [h.answers stationStatus (.inl rfl) (withStation_st st ..), ownerCode_eq]
    rfl
  case badSlot => exact h.answers transactionStatus (.inl rfl) (withStation_bad bad ..)
  case slot =>
    rw [h.answers transactionStatus (.inl rfl) (withStation_st st ..), deliver_done, modeByte_eq]
    simp only [List.cons_append, List.nil_append, List.append_assoc]
    rfl

theorem ownerOfByte_ownerCode (o : Option Port) : ownerOfByte (ownerCode o) = some o := by
  rcases o with _ | _ | _ <;> rfl

theorem ownerOfByte_none {o : Byte} (h : o ≠ 0x00#8 ∧ o ≠ 0x01#8 ∧ o ≠ 0xFF#8) : ownerOfByte o = none := by
  simp [ownerOfByte, h.1, h.2.1, h.2.2]

/-- A station parameter of a rule that refuses it whatever station it names. -/
theorem withStation_refused {n : Byte} {s : State} {k : Station → Answer} (h : ∀ st, k st = refuse .badParameter s) :
    withStation n s k = refuse .badParameter s := by
  unfold withStation
  split
  · exact h _
  · rfl

theorem scanReady_eq {s : State} {st : Station} {p : Port} (owner : s.owner st = some p) (c : Code) :
    scanReady st c s = s.reporting st p [c] := by
  simp only [scanReady, postOwner, owner, State.reporting, List.foldl_cons, List.foldl_nil]

theorem joinScans_eq {s : State} {st : Station} {p : Port} (owner : s.owner st = some p) (c : Code) : joinScans st c s =
    let u := s.putStation st { s.station st with scans := (s.station st).scans ++ [c] }
    if (s.slot st).state = .idle then u.reporting st p [c] else u := by
  unfold joinScans
  dsimp only
  rw [scanReady_eq (by rw [State.putStation_owner]; exact owner)]

/-- Settles O16: the four rules, check by check. -/
theorem stationCommands : Obligations.StationCommands := by
  unfold Obligations.StationCommands
  refine ⟨fun p s staff => ⟨fun n o h => ⟨fun bad => ?assignBad, ?assign⟩, fun n w1 w0 t1 t0 h => ⟨fun bad => ?setBad, ?set⟩⟩,
    fun p s => ⟨fun n h => ⟨fun bad => ?readBad, ?read⟩, fun n c h => ⟨fun bad => ?keyBad, ?key⟩⟩⟩
  case assignBad =>
    refine h.answers assignStation (.inr staff) (show _ = refuse .badParameter s from ?_)
    rcases bad with bad | bad
    · exact withStation_bad bad ..
    · refine withStation_refused fun st => ?_
      rw [byteAt_succ, byteAt_cons, ownerOfByte_none bad]
  case assign =>
    rintro st owner rfl rfl
    have rule : assignStation p [stationByte st, ownerCode owner] s = _ := withStation_byte st ..
    simp only [byteAt_succ, byteAt_cons, ownerOfByte_ownerCode] at rule
    refine ⟨fun busy => ?_, fun idle => ?_⟩
    · rw [if_pos busy] at rule
      exact h.answers assignStation (.inr staff) rule
    · rw [if_neg (not_not.mpr idle)] at rule
      exact h.answers assignStation (.inr staff) rule
  case setBad => exact h.answers setStation (.inr staff) (withStation_bad bad ..)
  case set =>
    rintro st rfl
    have rule : setStation p [stationByte st, w1, w0, t1, t0] s = _ := withStation_byte st ..
    simp only [numAt_cons, numAt_pair] at rule
    exact h.answers setStation (.inr staff) rule
  case readBad => exact h.answers readScan (.inl rfl) (withStation_bad bad ..)
  case read =>
    rintro st rfl
    have rule : readScan p [stationByte st] s = _ := withStation_byte st ..
    by_cases owner : s.owner st = some p
    · rw [ifOwner_owner owner] at rule
      rw [if_neg (not_not.mpr owner), h.answers readScan (.inl rfl) rule]
      split
      · rfl
      · cases scans : (s.station st).scans with
        | nil => rfl
        | cons c rest => simp only [dropOldestScan, scans, List.tail_cons, deliver_done]
    · rw [ifOwner_other owner] at rule
      rw [if_pos owner]
      exact h.answers readScan (.inl rfl) rule
  case keyBad => exact h.answers keyEntry (.inl rfl) (withStation_bad bad ..)
  case key =>
    rintro st rfl
    have rule : keyEntry p (stationByte st :: codeBytes c) s = _ := withStation_byte st ..
    by_cases owner : s.owner st = some p
    · rw [ifOwner_owner owner] at rule
      simp only [codeAt_cons, codeAt_codeBytes_alone, joinScans_eq owner] at rule
      rw [if_neg (not_not.mpr owner), h.answers keyEntry (.inl rfl) rule, Config.scanSlotsMax]
      split
      · rfl
      · split <;> rfl
    · rw [ifOwner_other owner] at rule
      rw [if_pos owner]
      exact h.answers keyEntry (.inl rfl) rule

/-! ### One step (O1) -/

theorem examineSearches_port {s : State} (run : s.running = true) (p : Port) :
    (examineSearches s).port p = examinePort s.rm (s.port p) := by
  unfold examineSearches
  rw [if_pos run]
  cases p <;> rfl

theorem examineSearches_stopped {s : State} (stopped : s.running = false) : examineSearches s = s := by
  simp [examineSearches, stopped]

theorem examineSearches_eq (s : State) : examineSearches s = { s with ports := (examineSearches s).ports } := by
  unfold examineSearches; split <;> rfl

/-- An examination moves a search past an entry that does not match (R41). -/
theorem examine_past {x : Search} {c : Collections} {f : Option Code} (here : (c.fieldCodes x.table x.field)[x.position]? = some f)
    (other : fieldMatches x.pattern f = false) : x.examine c = { x with position := x.position + 1 } := by
  simp [Search.examine, here, other]

theorem examine_stays {x : Search} {c : Collections}
    (stays : ∀ f, (c.fieldCodes x.table x.field)[x.position]? = some f → fieldMatches x.pattern f = true) : x.examine c = x := by
  unfold Search.examine
  split
  · rw [if_pos (stays _ ‹_›)]
  · rfl

/-- Settles O1: the front command, and the idle step in its three parts. -/
theorem stepRunsFrontCommand : Obligations.StepRunsFrontCommand := by
  unfold Obligations.StepRunsFrontCommand
  refine ⟨fun c s rest h => step_front h, fun s u idle => ?_⟩
  intro sent early late
  have sends : finishSending s = sent := finishSending_eq s
  have ticks : tickSecond (finishSending s) = u := by
    rw [sends]
    have clock : sent.clock = s.clock := by rw [← sends]; exact finishSending_clock s
    unfold tickSecond
    rw [clock]
    split
    · exact (early ‹_›).symm
    · rename_i minute
      have run : Host.Outcome.next (onNewMinute sent) = .next u := late (Nat.not_lt.mp minute)
      exact Host.Outcome.next.inj run
  refine ⟨examineSearches u, by rw [step_idle idle, idleStep, ticks], examineSearches_eq u, fun p => ?_⟩
  cases run : u.running with
  | false =>
    rw [examineSearches_stopped run]
    exact ⟨rfl, id, fun x search => ⟨fun h => (by cases h), fun _ => search⟩⟩
  | true =>
    rw [examineSearches_port run]
    refine ⟨rfl, fun none => by simp [examinePort, none], fun x search => ⟨fun _ ⟨f, here, other⟩ => ?_, fun stays => ?_⟩⟩
    · simp only [examinePort, search, Option.map_some, examine_past here other]
    · simp only [examinePort, search, Option.map_some, examine_stays (stays.resolve_left (by simp))]

end Sys2Proof.Machine
end

section
/-! PROOF. The wand stations: the decoder's moves (O17), the end of a symbol (O18) and the presence sample (O20). -/

namespace Sys2Proof.Machine

@[simp] theorem State.putStation_putStation (s : State) (st : Station) (x y : WandStation) :
    (s.putStation st x).putStation st y = s.putStation st y := by simp [State.putStation]

@[simp] theorem State.putStation_stationConfig (s : State) (st st' : Station) (x : WandStation) :
    (s.putStation st x).stationConfig st' = s.stationConfig st' := rfl

theorem abandonAcquisition_eq (st : Station) (s : State) : abandonAcquisition st s =
    s.putStation st { s.station st with decoder := .waitQuiet, indicator := some .fault } := by
  simp [abandonAcquisition, tone, setDecoder]

/-- Settles O17: each event by the decoder's state, the measured element by the bounds of R3 and the quiet of R4. -/
theorem wandDecoderMoves : Obligations.WandDecoderMoves := by
  unfold Obligations.WandDecoderMoves
  intro st s run
  refine ⟨fun quiet => ?start, fun kept count acquiring => ⟨fun ticks low high => ?valid, fun ticks out => ?out,
    fun ticks long odd => ?quiet, ?abandon⟩, fun waits => ?reached, ?pattern⟩
  case start => exact congrArg Host.Outcome.next (if_pos ⟨run, quiet⟩)
  case valid =>
    refine congrArg Host.Outcome.next ?_
    simp only [onElementMeasured, acquiring, run, if_true, if_pos (And.intro low high)]
    rfl
  case out =>
    refine congrArg Host.Outcome.next ?_
    have range : ¬ (10 ≤ ticks ∧ ticks ≤ 10000) := by omega
    have noQuiet : ¬ (count % 2 = 1 ∧ 12500 ≤ ticks) := by omega
    simp only [onElementMeasured, acquiring, run, if_true, if_neg range, if_neg noQuiet, abandonAcquisition_eq]
  case quiet =>
    refine congrArg Host.Outcome.next ?_
    have range : ¬ (10 ≤ ticks ∧ ticks ≤ 10000) := by omega
    simp only [onElementMeasured, acquiring, run, if_true, if_neg range, if_pos (And.intro odd long)]
  case abandon =>
    refine congrArg Host.Outcome.next ?_
    simp only [onAcquisitionAbandon, acquiring, run, if_true, abandonAcquisition_eq]
  case reached => exact congrArg Host.Outcome.next (if_pos ⟨run, waits⟩)
  case pattern => exact congrArg Host.Outcome.next (if_pos run)

/-! ### The end of a symbol (R9 to R12) -/

theorem isRepeat_iff {w : WandStation} {window ms : Nat} {c : Code} : isRepeat w window c ms = true ↔
    ∃ t, w.lastAccepted = some (c, t) ∧ ms - t < window := by
  unfold isRepeat
  split
  · rename_i c' t last
    simp only [last, Bool.and_eq_true, beq_iff_eq, decide_eq_true_eq, Option.some.injEq, Prod.mk.injEq]
    constructor
    · rintro ⟨rfl, lt⟩; exact ⟨t, ⟨rfl, rfl⟩, lt⟩
    · rintro ⟨t', ⟨rfl, rfl⟩, lt⟩; exact ⟨rfl, lt⟩
  · rename_i none
    simp [none]

theorem onDecodeSymbol_none {st : Station} {ms count : Nat} {kept : List Nat} {s : State} (run : s.running = true)
    (acquiring : (s.station st).decoder = .acquiring kept count) (odd : count % 2 = 1) (none : decodeElements kept count = none) :
    onDecodeSymbol st ms s = tone st .fault (s.putStation st { s.station st with decoder := .quiet }) := by
  simp only [onDecodeSymbol, acquiring, run, odd, and_self, if_true, setDecoder, none]

theorem onDecodeSymbol_some {st : Station} {ms count : Nat} {kept : List Nat} {s : State} {c : Code} (run : s.running = true)
    (acquiring : (s.station st).decoder = .acquiring kept count) (odd : count % 2 = 1) (code : decodeElements kept count = some c) :
    onDecodeSymbol st ms s = filterCode st c ms (s.putStation st { s.station st with decoder := .quiet }) := by
  simp only [onDecodeSymbol, acquiring, run, odd, and_self, if_true, setDecoder, code]

/-- A code offered at a station with an owner (R11). -/
theorem offerScan_eq {s : State} {st : Station} {p : Port} (owner : s.owner st = some p) (c : Code) : offerScan st c s =
    if (s.station st).scans.length < 2 then
      let u := s.putStation st { s.station st with scans := (s.station st).scans ++ [c] }
      if (s.slot st).state = .idle then u.reporting st p [c] else u
    else if (s.station st).overflow then s
    else post p ⟨.scanLost, some st, some c, none, none⟩ (s.putStation st { s.station st with overflow := true }) := by
  unfold offerScan
  rw [joinScans_eq owner]
  simp only [postOwner, State.putStation_owner, owner]
  rfl

/-- Settles O18: the fault, the station without an owner, the repeat, and the code handed on. -/
theorem symbolEndsInACodeOrAFault : Obligations.SymbolEndsInACodeOrAFault := by
  unfold Obligations.SymbolEndsInACodeOrAFault
  intro st ms count kept s run acquiring odd w quiet
  have exec_ : exec (.decodeSymbol st ms) s = .next (onDecodeSymbol st ms s) := rfl
  refine ⟨fun none => ?fault, fun c code => ⟨fun noOwner => ?noOwner, fun p owner => ⟨fun t last near => ?again, fun new => ?new⟩⟩⟩
  case fault => rw [exec_, onDecodeSymbol_none run acquiring odd none]; simp [tone, quiet, w]
  all_goals rw [exec_, onDecodeSymbol_some run acquiring odd code]
  case noOwner => simp [filterCode, noOwner, quiet, w]
  case again =>
    have repeats : isRepeat quiet (s.stationConfig st).repeatWindow c ms = true := isRepeat_iff.mpr ⟨t, last, near⟩
    show Host.Outcome.next (filterCode st c ms (s.putStation st quiet)) = _
    simp [filterCode, owner, repeats]
  case new =>
    have fresh : isRepeat quiet (s.stationConfig st).repeatWindow c ms = false := by
      rw [Bool.eq_false_iff]
      intro repeats
      obtain ⟨t, last, near⟩ := isRepeat_iff.mp repeats
      exact absurd (new t last) (Nat.not_le.mpr near)
    have filter : filterCode st c ms (s.putStation st quiet) =
        offerScan st c (s.putStation st { quiet with lastAccepted := some (c, ms) }) := by
      simp [filterCode, owner, fresh]
    show Host.Outcome.next (filterCode st c ms (s.putStation st quiet)) = _
    rw [filter, offerScan_eq (by rw [State.putStation_owner]; exact owner)]
    simp [quiet, w]

/-! ### The presence sample (R15, R16) -/

/-- What a post leaves in the ports depends on the ports alone. -/
theorem post_ports_congr {s t : State} (h : s.ports = t.ports) (p : Port) (e : Event) : (post p e s).ports = (post p e t).ports := by
  simp only [post, State.putPort, State.port, h]

theorem postIfStaff_ports_congr {s t : State} (h : s.ports = t.ports) (p : Port) (e : Event) :
    (postIfStaff p e s).ports = (postIfStaff p e t).ports := by
  unfold postIfStaff
  rw [show s.port p = t.port p by rw [State.port, State.port, h]]
  split
  · exact post_ports_congr h p e
  · exact h

theorem postStaff_ports_congr {s t : State} (h : s.ports = t.ports) (e : Event) : (postStaff e s).ports = (postStaff e t).ports :=
  postIfStaff_ports_congr (postIfStaff_ports_congr h .A e) .B e

theorem postOwnerOrStaff_ports_congr {s t : State} (config : s.config = t.config) (h : s.ports = t.ports) (st : Station) (e : Event) :
    (postOwnerOrStaff st e s).ports = (postOwnerOrStaff st e t).ports := by
  unfold postOwnerOrStaff
  rw [owner_of_config config st]
  split
  · exact post_ports_congr h _ e
  · exact postStaff_ports_congr h e

theorem postOwnerOrStaff_same (st : Station) (e : Event) (s : State) : SameButEvents s (postOwnerOrStaff st e s) := by
  unfold postOwnerOrStaff
  split
  · exact post_same ..
  · exact postStaff_same ..

/-- The recorded presence changes in a sample (R15). -/
def presenceChanges (level : Bool) (w : WandStation) : Bool := decide (level ≠ w.present ∧ w.prevSample = some level)

/-- A station after its sample (R15, R16). -/
def sampledStation (level : Bool) (m : Mode) (w : WandStation) : WandStation :=
  if presenceChanges level w then
    { w with
      prevSample := some level, present := level,
      decoder := if level = false then .disabled else if w.decoder = .disabled ∧ m = .day then .quiet else w.decoder }
  else { w with prevSample := some level }

def presenceEvent (level : Bool) (st : Station) : Event := ⟨.stationChange, some st, none, none, some (.presence level)⟩

theorem sampleStation_eq (level : Bool) (st : Station) (s : State) : sampleStation level st s =
    let u := s.putStation st (sampledStation level s.mode (s.station st))
    if presenceChanges level (s.station st) then postOwnerOrStaff st (presenceEvent level st) u else u := by
  have changes : ((s.station st).present != level && (s.station st).prevSample == some level) =
      presenceChanges level (s.station st) := by
    rw [Bool.eq_iff_iff]
    simp only [presenceChanges, Bool.and_eq_true, bne_iff_ne, beq_iff_eq, decide_eq_true_eq]
    exact and_congr_left' ne_comm
  unfold sampleStation sampledStation
  dsimp only
  rw [changes]
  cases presenceChanges level (s.station st) with
  | false => rfl
  | true =>
    rw [if_pos rfl, if_pos rfl, if_pos rfl, changePresence, State.station_putStation, State.putStation_putStation]
    cases level <;> rfl

/-- The samples of some stations, each once: every station sampled, the others left, and the events in order. -/
theorem sampleStations_spec (levels : PerStation Bool) (s : State) (l : List Station) (nodup : l.Nodup) (u v : State)
    (tell : Station → State → State)
    (tells : ∀ st v, v.config = s.config → postOwnerOrStaff st (presenceEvent (levels.get st) st) v = tell st v)
    (frame : u = { s with stations := u.stations, ports := u.ports }) (unsampled : ∀ st ∈ l, u.station st = s.station st)
    (config : v.config = s.config) (ports : v.ports = u.ports) :
    let t := l.foldl (fun t st => sampleStation (levels.get st) st t) u
    t = { s with stations := t.stations, ports := t.ports } ∧
      (∀ st ∈ l, t.station st = sampledStation (levels.get st) s.mode (s.station st)) ∧
      (∀ st, st ∉ l → t.station st = u.station st) ∧
      t.ports = (l.foldl (fun v st => if presenceChanges (levels.get st) (s.station st) then tell st v else v) v).ports := by
  induction l generalizing u v with
  | nil => exact ⟨frame, by simp, fun _ _ => rfl, ports.symm⟩
  | cons a l ih =>
    obtain ⟨new, nodup⟩ := List.nodup_cons.mp nodup
    have before := unsampled a (List.mem_cons_self ..)
    have uconfig : u.config = s.config := by rw [frame]
    have mode : u.mode = s.mode := by rw [frame]
    -- the station sampled first, and its event
    let w := u.putStation a (sampledStation (levels.get a) s.mode (s.station a))
    have one : SameButEvents w (sampleStation (levels.get a) a u) := by
      rw [sampleStation_eq, before, mode]
      dsimp only
      split
      · exact postOwnerOrStaff_same ..
      · exact .refl _
    have frame' : sampleStation (levels.get a) a u =
        { s with stations := (sampleStation (levels.get a) a u).stations, ports := (sampleStation (levels.get a) a u).ports } := by
      rw [one.eq]
      show _ = { s with stations := w.stations, ports := _ }
      conv_lhs => rw [show w = { s with stations := w.stations, ports := u.ports } by
        show u.putStation a _ = _; rw [frame]; rfl]
    have station : ∀ st, (sampleStation (levels.get a) a u).station st =
        if st = a then sampledStation (levels.get a) s.mode (s.station a) else u.station st := fun st => by
      rw [one.station]
      by_cases h : st = a
      · subst h; simp [w]
      · rw [if_neg h]; exact State.station_putStation_other _ _ h
    obtain ⟨framed, sampled, others, told⟩ := ih nodup (sampleStation (levels.get a) a u)
      (if presenceChanges (levels.get a) (s.station a) then tell a v else v) frame'
      (fun st hst => by
        rw [station, if_neg fun e : st = a => new (e ▸ hst)]
        exact unsampled st (List.mem_cons_of_mem _ hst))
      (by split
          · rw [← tells a v config, (postOwnerOrStaff_same ..).eq]; exact config
          · exact config)
      (by rw [sampleStation_eq, before, mode]
          dsimp only
          split
          · rw [← tells a v config]
            exact postOwnerOrStaff_ports_congr (by exact config.trans uconfig.symm) (by exact ports) ..
          · exact ports)
    refine ⟨framed, fun st hst => ?_, fun st hst => ?_, told⟩
    · by_cases h : st ∈ l
      · exact sampled st h
      · obtain rfl : st = a := (List.mem_cons.mp hst).resolve_right h
        rw [List.foldl_cons, others st h, station, if_pos rfl]
    · have apart : st ≠ a ∧ st ∉ l := by simpa using hst
      rw [List.foldl_cons, others st apart.2, station, if_neg apart.1]

/-- Settles O20: the four samples one after another. -/
theorem presenceSampleOfEveryStation : Obligations.PresenceSampleOfEveryStation := by
  unfold Obligations.PresenceSampleOfEveryStation
  intro levels s run
  obtain ⟨frame, sampled, _, told⟩ := sampleStations_spec levels s allStations (by decide) s s _
    (fun st v config => by rw [postOwnerOrStaff, owner_of_config config]) rfl (fun _ _ => rfl) rfl rfl
  refine ⟨_, congrArg Host.Outcome.next (if_pos run), frame, fun st => ⟨fun changes => ?_, fun same => ?_⟩, told⟩
  · rw [sampled st (mem_allStations st), sampledStation, if_pos (show presenceChanges _ _ = true from changes)]
  · rw [sampled st (mem_allStations st), sampledStation, if_neg (show ¬ presenceChanges _ _ = true from same)]

end Sys2Proof.Machine
end

section
/-! PROOF. The transaction slots: how a slot opens, takes its patron and ends (O21 to O24, O31, O32), and when the event in which it
ends tells PRINTER-FAULT. -/

namespace Sys2Proof.Machine

/-! ### The printer in an event that brings slips (R138 to R141) -/

/-- What an event that does no more to the SLIP UNIT than bring slips into its queue leaves of the printer. -/
structure Fed (s t : State) : Prop where
  paper : t.slip.paperOut = s.slip.paperOut
  grows : s.slip.queue.length ≤ t.slip.queue.length
  same : t.slip.queue.length = s.slip.queue.length → t.slip.printer = s.slip.printer
  ready : s.slip.printer = .ready → s.slip.queue.length < t.slip.queue.length →
    t.slip.printer = if s.slip.paperOut then .noPaper else .printing
  asleep : s.slip.printer = .asleep → t.slip.printer = .asleep ∨ t.slip.printer = .waking
  other : s.slip.printer ≠ .ready → s.slip.printer ≠ .asleep → t.slip.printer = s.slip.printer

/-- An event that brings no slip and leaves the printer. -/
theorem Fed.of_same {s t : State} (queue : t.slip.queue = s.slip.queue) (printer : t.slip.printer = s.slip.printer)
    (paper : t.slip.paperOut = s.slip.paperOut) : Fed s t :=
  ⟨paper, by rw [queue], fun _ => printer, fun _ lt => absurd lt (by rw [queue]; omega), fun h => .inl (printer.trans h),
    fun _ _ => printer⟩

theorem Fed.of_slip {s t : State} (h : t.slip = s.slip) : Fed s t := .of_same (by rw [h]) (by rw [h]) (by rw [h])

theorem Fed.trans {s t u : State} (h : Fed s t) (k : Fed t u) : Fed s u where
  paper := k.paper.trans h.paper
  grows := h.grows.trans k.grows
  same e := by
    have := h.grows; have := k.grows
    exact (k.same (by omega)).trans (h.same (by omega))
  ready r lt := by
    by_cases first : s.slip.queue.length < t.slip.queue.length
    · have printer := h.ready r first
      rw [k.other, printer] <;> rw [printer] <;> split <;> simp
    · have same := Nat.le_antisymm (Nat.not_lt.mp first) h.grows
      rw [k.ready ((h.same same).trans r) (by omega), h.paper]
  asleep a := by
    rcases h.asleep a with p | p
    · exact k.asleep p
    · exact .inr ((k.other (by simp [p]) (by simp [p])).trans p)
  other r a := by
    have p := h.other r a
    exact (k.other (p ▸ r) (p ▸ a)).trans p

theorem fed_queueSlip (sl : Slip) (s : State) : Fed s (queueSlip sl s) := by
  have longer : s.slip.queue.length < (queueSlip sl s).slip.queue.length := by simp
  have printer : (queueSlip sl s).slip.paperOut = s.slip.paperOut ∧ (queueSlip sl s).slip.printer =
      match s.slip.printer with
      | .asleep => if s.slip.queue.isEmpty then .waking else .asleep
      | .ready => if s.slip.paperOut then .noPaper else .printing
      | x => x := by
    unfold queueSlip
    cases h : s.slip.printer with
    | asleep => dsimp only; split <;> simp [h, wake]
    | ready =>
      cases paper : s.slip.paperOut <;> simp only [beginPrinting, sendHead, onSlip, paper]
      · cases s.slip.feedOwed <;> simp
      · simp
    | _ => simp [h]
  refine ⟨printer.1, longer.le, fun e => absurd e (by omega), fun r _ => ?_, fun a => ?_, fun r a => ?_⟩
  · rw [printer.2, r]
  · rw [printer.2, a]; dsimp only; split <;> simp
  · rw [printer.2]; cases h : s.slip.printer <;> simp_all

/-- An event that brings slips ends with PRINTER-FAULT where the first of them found the printer READY without paper (R140). -/
theorem faultLast_told {f : State → State} {s : State} (h : Fed s (f s)) : faultLast f s = (f s).toldFault s := by
  have iff : s.slip.printer ≠ .noPaper ∧ (f s).slip.printer = .noPaper ↔
      s.slip.printer = .ready ∧ s.slip.paperOut = true ∧ s.slip.queue.length < (f s).slip.queue.length := by
    constructor
    · rintro ⟨before, after⟩
      by_cases r : s.slip.printer = .ready
      · have longer : s.slip.queue.length < (f s).slip.queue.length := Nat.lt_of_le_of_ne h.grows fun e => by
          rw [h.same e.symm, r] at after; cases after
        rw [h.ready r longer] at after
        exact ⟨r, by split at after <;> simp_all, longer⟩
      · by_cases a : s.slip.printer = .asleep
        · rcases h.asleep a with p | p <;> rw [p] at after <;> cases after
        · exact absurd ((h.other r a).symm.trans after) before
    · rintro ⟨r, paper, longer⟩
      exact ⟨by simp [r], by rw [h.ready r longer, paper]; rfl⟩
  unfold faultLast State.toldFault
  dsimp only
  by_cases c : s.slip.printer ≠ .noPaper ∧ (f s).slip.printer = .noPaper
  · rw [if_pos c, if_pos (iff.mp c)]; rfl
  · rw [if_neg c, if_neg fun k => c (iff.mpr k)]

theorem toldFault_same {s t : State} (h : t.slip.queue = s.slip.queue) : t.toldFault s = t := by
  unfold State.toldFault
  exact if_neg fun k => absurd k.2.2 (by rw [h]; omega)

theorem toldFault_slip {s s' t : State} (h : s'.slip = s.slip) : t.toldFault s' = t.toldFault s := by
  unfold State.toldFault; rw [h]

/-! ### The end of a transaction (R12, R103, R105, R131) -/

theorem reportWaiting_eq {s : State} {st : Station} {p : Port} (owner : s.owner st = some p) :
    reportWaiting st s = s.reporting st p (s.station st).scans := by
  have fold : ∀ (l : List Code) (t : State), t.owner st = some p → l.foldl (fun t c => scanReady st c t) t = t.reporting st p l := by
    intro l
    induction l with
    | nil => exact fun _ _ => rfl
    | cons c l ih =>
      intro t ht
      have one := scanReady_eq ht c
      rw [List.foldl_cons, one, ih _ (by rw [← one, scanReady, owner_of_config (by rw [(postOwner_same ..).eq])]; exact ht)]
      rfl
  exact fold _ s owner

theorem reportWaiting_none {s : State} {st : Station} (owner : s.owner st = none) : reportWaiting st s = s := by
  have fold : ∀ l : List Code, l.foldl (fun t c => scanReady st c t) s = s := fun l => by
    induction l with
    | nil => rfl
    | cons c l ih => rw [List.foldl_cons, scanReady, postOwner, owner]; exact ih
  exact fold _

theorem leftSlot_eq {s : State} {st : Station} {p : Port} (owner : s.owner st = some p) (number : Option Nat) :
    leftSlot st number s = post p ⟨.transactionClosed, some st, none, number.map .number, none⟩
      (s.putSlot st ⟨.idle, none, false, none, none, false, [], none, none⟩) := by
  rw [leftSlot, postOwner, State.putSlot_owner, owner]
  rfl

theorem endedAtOwner_eq {s : State} {st : Station} {p : Port} (owner : s.owner st = some p) (number : Option Nat) :
    s.endedAtOwner st number = s.endedAt st p number := by
  rw [State.endedAtOwner, owner]

/-- A transaction that ends without a reopening. -/
theorem leaveSlot_ended (st : Station) (number : Option Nat) (s : State) : leaveSlot st number none s = s.endedAtOwner st number := by
  rw [leaveSlot_none]
  cases owner : s.owner st with
  | none =>
    have left : leftSlot st number s = s.putSlot st Slot.fresh := by rw [leftSlot, postOwner, State.putSlot_owner, owner]
    rw [left, reportWaiting_none (by simpa using owner), State.endedAtOwner, owner]
    rfl
  | some p =>
    rw [reportWaiting_eq ((leftSlot_same ..).owner st |>.trans owner), leftSlot_eq owner, endedAtOwner_eq owner]
    rfl

theorem wantsSlip_iff {s : State} {st : Station} : s.wantsSlip st = true ↔ (s.slot st).slipWanted = true ∧ (s.slot st).draft ≠ [] := by
  simp [State.wantsSlip]

theorem closeSlot_bare {s : State} {st : Station} (h : (s.slot st).draft = [] ∨ (s.slot st).slipWanted = false) (reopen : Option Code) :
    closeSlot st reopen s = leaveSlot st none reopen s := by
  have bare : ¬ s.wantsSlip st = true := by rw [wantsSlip_iff]; rcases h with h | h <;> simp [h]
  rw [closeSlot, if_neg bare]

theorem closeSlot_queued {s : State} {st : Station} (lines : (s.slot st).draft ≠ []) (slip : (s.slot st).slipWanted = true)
    (room : s.slip.queue.length < 8) (reopen : Option Code) :
    closeSlot st reopen s = leaveSlot st (some s.nextSlip) reopen (queueSlip (composeSlip st s) s) := by
  rw [closeSlot, if_pos (wantsSlip_iff.mpr ⟨slip, lines⟩), if_pos (show s.slipRoom = true from decide_eq_true room)]

theorem closeSlot_waits {s : State} {st : Station} (lines : (s.slot st).draft ≠ []) (slip : (s.slot st).slipWanted = true)
    (full : 8 ≤ s.slip.queue.length) (reopen : Option Code) : closeSlot st reopen s = s.closingAt st reopen :=
  closeSlot_full (wantsSlip_iff.mpr ⟨slip, lines⟩) (decide_eq_false (Nat.not_lt.mpr full))

/-- An open slot ends as the statements write it (R103, R105, R124, R125, R131). -/
theorem endSlot_eq (st : Station) (s : State) : endSlot st s = s.slotEnded st := by
  unfold endSlot State.slotEnded
  dsimp only
  cases isOpen : (s.slot st).state.isOpen with
  | false => rfl
  | true =>
    rw [if_pos rfl, if_neg (show ¬ true = false by simp)]
    by_cases bare : (s.slot st).draft = [] ∨ (s.slot st).slipWanted = false
    · rw [if_pos bare, ← leaveSlot_ended, ← closeSlot_bare bare]
      split
      · exact (closeSlot_bare bare none).symm
      · rfl
    · obtain ⟨lines, slip⟩ := not_or.mp bare
      rw [if_neg bare, if_neg (by simpa using lines)]
      by_cases room : s.slip.queue.length < 8
      · rw [if_pos room, ← leaveSlot_ended, closeSlot_queued lines (by simpa using slip) room]
      · rw [if_neg room, closeSlot_waits lines (by simpa using slip) (Nat.not_lt.mp room)]

theorem leaveSlot_slip (st : Station) (number : Option Nat) (reopen : Option Code) (s : State) :
    (leaveSlot st number reopen s).slip = s.slip := by rw [leaveSlot_same]

theorem fed_closeSlot (st : Station) (reopen : Option Code) (s : State) : Fed s (closeSlot st reopen s) := by
  by_cases bare : (s.slot st).draft = [] ∨ (s.slot st).slipWanted = false
  · rw [closeSlot_bare bare]; exact .of_slip (leaveSlot_slip ..)
  · obtain ⟨lines, slip⟩ := not_or.mp bare
    by_cases room : s.slip.queue.length < 8
    · rw [closeSlot_queued lines (by simpa using slip) room]
      exact (fed_queueSlip _ s).trans (.of_slip (leaveSlot_slip ..))
    · rw [closeSlot_waits lines (by simpa using slip) (Nat.not_lt.mp room)]
      exact .of_same rfl rfl rfl

theorem fed_endSlot (st : Station) (s : State) : Fed s (endSlot st s) := by
  unfold endSlot
  split
  · split
    · exact .of_slip (leaveSlot_slip ..)
    · exact fed_closeSlot ..
  · exact .of_slip rfl

/-! ### OPEN, CLOSE and CANCEL TRANSACTION (O21, O22) -/

/-- The transaction mode that a parameter names, 0 to 2. -/
def namedMode (m : Byte) : TxMode := if m = 0x00#8 then .checkout else if m = 0x01#8 then .returning else .renewing

theorem txModeOfByte_eq (m : Byte) : txModeOfByte m = if 2 < m.toNat then none else some (namedMode m) := by revert m; decide
theorem boolOfByte_eq (b : Byte) : boolOfByte b = if 1 < b.toNat then none else some (decide (b = 0x01#8)) := by revert b; decide
theorem openedState_namedMode (m : Byte) : openedState (namedMode m) = if m = 0x01#8 then .returning else .awaitPatron := by
  revert m; decide

theorem openTransaction_eq {p : Port} {st : Station} {m sl : Byte} {s : State} (owner : s.owner st = some p) :
    openTransaction p [stationByte st, m, sl] s =
      if 2 < m.toNat ∨ 1 < sl.toNat then refuse .badParameter s
      else if s.mode = .night then refuse .night s
      else if s.clock.unset then refuse .clockUnset s
      else if (s.slot st).state ≠ .idle then refuse .wrongState s
      else done [] (s.putSlot st { Slot.fresh with
        state := if m = 0x01#8 then .returning else .awaitPatron, mode := some (namedMode m), slipWanted := sl = 0x01#8,
        timer := s.timerStart st }) := by
  refine (withStation_byte st ..).trans ((ifOwner_owner owner _).trans ?_)
  rw [byteAt_succ, byteAt_cons, byteAt_succ, byteAt_succ, byteAt_cons, ← openedState_namedMode]
  by_cases mode : 2 < m.toNat
  · simp [txModeOfByte_eq, mode]
  · by_cases slip : 1 < sl.toNat
    · simp [boolOfByte_eq, slip]
    · simp [txModeOfByte_eq, boolOfByte_eq, mode, slip]

/-- Settles O21: the checks of OPEN TRANSACTION in order, and the slot that it opens. -/
theorem openTransactionOpensTheSlot : Obligations.OpenTransactionOpensTheSlot := by
  unfold Obligations.OpenTransactionOpensTheSlot
  intro p n m sl s h
  refine ⟨fun bad => h.answers openTransaction (.inl rfl) (withStation_bad bad ..), ?_⟩
  rintro st rfl
  by_cases owner : s.owner st = some p
  · rw [if_neg (not_not.mpr owner), h.answers openTransaction (.inl rfl) (openTransaction_eq owner)]
    refine congrArg _ ?_
    rw [apply_ite (deliver p), apply_ite (deliver p), apply_ite (deliver p), apply_ite (deliver p)]
    rfl
  · rw [if_pos owner]
    exact h.answers openTransaction (.inl rfl) ((withStation_byte st ..).trans (ifOwner_other owner _))

theorem closeTransaction_eq {p : Port} {st : Station} {s : State} (owner : s.owner st = some p) :
    closeTransaction p [stationByte st] s =
      if (s.slot st).state.isOpen then done (closeResult st s) (faultLast (closeSlot st none) s) else refuse .wrongState s :=
  (withStation_byte st ..).trans (ifOwner_owner owner _)

theorem cancelTransaction_eq {p : Port} {st : Station} {s : State} (owner : s.owner st = some p) :
    cancelTransaction p [stationByte st] s =
      if (s.slot st).state.isOpen = false then refuse .wrongState s
      else if (s.slot st).draft.isEmpty then done [] (cancelSlot st s) else refuse .hasItems s :=
  (withStation_byte st ..).trans (ifOwner_owner owner _)

theorem closeResult_bare {s : State} {st : Station} (h : (s.slot st).draft = [] ∨ (s.slot st).slipWanted = false) :
    closeResult st s = [0x00#8, 0xFF#8, 0xFF#8] := by
  have bare : ¬ s.wantsSlip st = true := by rw [wantsSlip_iff]; rcases h with h | h <;> simp [h]
  rw [closeResult, if_neg bare]; rfl

theorem closeResult_queued {s : State} {st : Station} (lines : (s.slot st).draft ≠ []) (slip : (s.slot st).slipWanted = true)
    (room : s.slip.queue.length < 8) : closeResult st s = 0x00#8 :: be16 s.nextSlip := by
  rw [closeResult, if_pos (wantsSlip_iff.mpr ⟨slip, lines⟩), if_pos (show s.slipRoom = true from decide_eq_true room)]; rfl

theorem closeResult_waits {s : State} {st : Station} (lines : (s.slot st).draft ≠ []) (slip : (s.slot st).slipWanted = true)
    (full : 8 ≤ s.slip.queue.length) : closeResult st s = [0x05#8, 0xFF#8, 0xFF#8] := by
  have none : ¬ s.slipRoom = true := fun h => Nat.not_lt.mpr full (of_decide_eq_true h)
  rw [closeResult, if_pos (wantsSlip_iff.mpr ⟨slip, lines⟩), if_neg none]; rfl

theorem endedAt_slip (s : State) (st : Station) (p : Port) (number : Option Nat) (owner : s.owner st = some p) :
    (s.endedAt st p number).slip = s.slip := by
  rw [← endedAtOwner_eq owner, ← leaveSlot_ended, leaveSlot_slip]

theorem queueSlip_owner (sl : Slip) (s : State) (st : Station) : (queueSlip sl s).owner st = s.owner st :=
  owner_of_config (queueSlip_config sl s) st

/-- Settles O22: the checks, and the three ways in which a transaction closes. -/
theorem closeAndCancelTransaction : Obligations.CloseAndCancelTransaction := by
  unfold Obligations.CloseAndCancelTransaction
  intro p st s sl
  refine ⟨fun h => ⟨fun other => ?closeOther, fun owner => ⟨fun shut => ?closeShut, fun isOpen bare => ?bare,
      fun isOpen slip lines room => ?queued, fun isOpen slip lines full => ?waits⟩⟩,
    fun h => ⟨fun other => ?cancelOther, fun owner => ⟨fun shut => ?cancelShut, fun isOpen lines => ?lines, fun isOpen none => ?cancelled⟩⟩,
    fun n bad h => h.answers closeTransaction (.inl rfl) (withStation_bad bad ..),
    fun n bad h => h.answers cancelTransaction (.inl rfl) (withStation_bad bad ..)⟩
  case closeOther => exact h.answers closeTransaction (.inl rfl) ((withStation_byte st ..).trans (ifOwner_other other _))
  case closeShut => rw [h.answers closeTransaction (.inl rfl) (closeTransaction_eq owner), if_neg (by simpa using shut)]; rfl
  case bare =>
    rw [h.answers closeTransaction (.inl rfl) (closeTransaction_eq owner), if_pos isOpen, closeResult_bare bare.symm,
      faultLast_told (fed_closeSlot ..), closeSlot_bare bare.symm, leaveSlot_ended, endedAtOwner_eq owner,
      toldFault_same (by rw [endedAt_slip _ _ _ _ owner])]
    rfl
  case queued =>
    rw [h.answers closeTransaction (.inl rfl) (closeTransaction_eq owner), if_pos isOpen, closeResult_queued lines slip room,
      faultLast_told (fed_closeSlot ..), closeSlot_queued lines slip room, leaveSlot_ended,
      endedAtOwner_eq ((queueSlip_owner ..).trans owner)]
    rfl
  case waits =>
    rw [h.answers closeTransaction (.inl rfl) (closeTransaction_eq owner), if_pos isOpen, closeResult_waits lines slip full,
      faultLast_told (fed_closeSlot ..), closeSlot_waits lines slip full, toldFault_same (s := s) (by rfl)]
    rfl
  case cancelOther => exact h.answers cancelTransaction (.inl rfl) ((withStation_byte st ..).trans (ifOwner_other other _))
  case cancelShut => rw [h.answers cancelTransaction (.inl rfl) (cancelTransaction_eq owner), if_pos shut]; rfl
  case lines =>
    rw [h.answers cancelTransaction (.inl rfl) (cancelTransaction_eq owner), if_neg (by rw [isOpen]; simp), if_neg (by simpa using lines)]
    rfl
  case cancelled =>
    rw [h.answers cancelTransaction (.inl rfl) (cancelTransaction_eq owner), if_neg (by rw [isOpen]; simp), if_pos (by simpa using none),
      cancelSlot, leaveSlot_ended, endedAtOwner_eq owner]
    rfl

/-! ### The code that a slot takes, and the patron (O24, O31, O32) -/

theorem Takes.codeToTake {s : State} {st : Station} {p : Port} {c : Code} {rest : List Code} (h : Takes s st p c rest) :
    s.codeToTake st = some c := by
  simp [State.codeToTake, h.running, h.powerGood, h.slotOpen, h.waiting]

theorem Takes.takeCode {s : State} {st : Station} {p : Port} {c : Code} {rest : List Code} (h : Takes s st p c rest) :
    takeCode st s = s.afterTaking st rest := by
  unfold Machine.takeCode dropOldestScan
  rw [h.waiting]
  rfl

theorem refuseStep_eq {s : State} {st : Station} {p : Port} (owner : s.owner st = some p) (c : Code) (r : Refuse) :
    refuseStep st c r s = s.refusedWith st p c r := by
  rw [refuseStep, reportRefusal, postOwner, owner]
  rfl

theorem isBlocked_iff {s : State} {b : Code} : s.isBlocked b = true ↔
    (s.blockOf b).isSome = true ∨ (0 < s.config.threshold ∧ s.config.threshold ≤ s.balanceOf b) := by
  simp [State.isBlocked, State.atThreshold]

theorem blockReason_eq (s : State) (b : Code) : s.blockReason b = s.barReason b := by
  unfold State.blockReason State.barReason
  cases s.blockOf b <;> rfl

theorem patronStepOf_eq {s : State} {st : Station} {p : Port} (owner : s.owner st = some p) (c : Code) :
    patronStepOf st c s = s.patronStepAt st p c := by
  unfold patronStepOf State.patronStepAt
  dsimp only
  rw [refuseStep_eq owner, refuseStep_eq owner]
  refine ite_congr rfl (fun _ => rfl) fun _ => ite_congr rfl (fun _ => rfl) fun _ => ?_
  have told : ∀ (x : Slot) (e : Event), postOwner st e (s.putSlot st x) = post p e (s.putSlot st x) := fun x e => by
    rw [postOwner, State.putSlot_owner, owner]
  rw [reportBlocked, reportPatronOk, told, told, blockReason_eq]
  exact ite_congr (propext isBlocked_iff) (fun _ => rfl) fun _ => rfl

/-- Settles O24: the code taken, and the patron step in the state that its taking leaves. -/
theorem patronStepTakesThePatron : Obligations.PatronStepTakesThePatron := by
  unfold Obligations.PatronStepTakesThePatron
  intro st p c rest s takes waits borrower u takenIn
  have exec_ : exec (.patronStep st) s = .next (onPatronStep st s) := rfl
  rw [exec_, onPatronStep, takes.codeToTake]
  dsimp only
  rw [if_pos ⟨waits, borrower⟩, takes.takeCode, patronStepOf_eq (s := u) takes.owner]
  rfl

/-- A slot that closes for another borrower's card reopens with it at once, while PFAIL is low (R111). -/
theorem leaveSlot_reopened {s : State} {st : Station} {p : Port} (owner : s.owner st = some p) (power : s.pfail = false)
    (number : Option Nat) (c : Code) : leaveSlot st number (some c) s =
      patronStepOf st c ((post p ⟨.transactionClosed, some st, none, number.map .number, none⟩
          (s.putSlot st ⟨.idle, none, false, none, none, false, [], none, none⟩)).putSlot st
        { state := .awaitPatron, mode := (s.slot st).mode, slipWanted := (s.slot st).slipWanted, patron := none, patronClass := none,
          overridden := false, draft := [],
          timer := if (s.stationConfig st).timeout = 0 then none else some (s.stationConfig st).timeout, reopen := none }) := by
  rw [leaveSlot_some, leftSlot_eq owner, reopenSlot]
  dsimp only
  rw [if_neg (by simp [power]), if_neg (by simp [power])]
  rfl

/-- Settles O31: each code by the state of the slot. -/
theorem secondCardsAndCodesNotTaken : Obligations.SecondCardsAndCodesNotTaken := by
  unfold Obligations.SecondCardsAndCodesNotTaken
  intro st p c rest s takes u sl reopened closed
  have wrong : ∀ r, wrongCode sl.state c = some r → exec (.wrongCodeRefusal st) s = .next (u.refusedWith st p c r) := fun r h => by
    have exec_ : exec (.wrongCodeRefusal st) s = .next (onWrongCode st s) := rfl
    rw [exec_, onWrongCode, takes.codeToTake]
    dsimp only
    rw [h, takes.takeCode]
    exact congrArg _ (refuseStep_eq (s := u) takes.owner c r)
  have card : sl.state = .serving → isBorrower c = true → sl.patron ≠ some c →
      exec (.secondCard st) s = .next ((closeSlot st (some c) u).toldFault u) := fun serving borrower other => by
    have exec_ : exec (.secondCard st) s = .next (onSecondCard st s) := rfl
    rw [exec_, onSecondCard, takes.codeToTake]
    dsimp only
    rw [if_pos ⟨serving, borrower, other⟩, takes.takeCode, faultLast_told (fed_closeSlot ..)]
  have slot : (u.slot st).draft = sl.draft ∧ (u.slot st).slipWanted = sl.slipWanted ∧ (u.slot st).mode = sl.mode := by
    simp [u, sl, State.afterTaking]
  refine ⟨fun serving own => ?own, fun waits item => wrong .needPatron ?wait, fun barred => wrong .wrongType ?barred,
    fun returning borrower => wrong .wrongType ?card,
    fun serving borrower other => ⟨fun bare => ?bare, fun slip lines room => ?queued, fun slip lines full => ?waits⟩⟩
  case own =>
    have exec_ : exec (.ignoredCode st) s = .next (onIgnoredCode st s) := rfl
    rw [exec_, onIgnoredCode, takes.codeToTake]
    dsimp only
    rw [if_pos ⟨serving, own⟩, takes.takeCode]
  case wait => simp only [wrongCode, waits, item, if_true]
  case barred => simp only [wrongCode, barred]
  case card => simp only [wrongCode, returning, borrower, if_true]
  all_goals rw [card serving borrower other]
  case bare =>
    rw [closeSlot_bare (by rw [slot.1, slot.2.1]; exact bare.symm), toldFault_same (by rw [leaveSlot_slip]),
      leaveSlot_reopened (s := u) takes.owner takes.powerGood, slot.2.1, slot.2.2]
    rfl
  case queued =>
    rw [closeSlot_queued (s := u) (by rw [slot.1]; exact lines) (by rw [slot.2.1]; exact slip) room,
      leaveSlot_reopened ((queueSlip_owner _ u st).trans takes.owner) (by rw [queueSlip_frame]; exact takes.powerGood), queueSlip_slot,
      slot.2.1, slot.2.2, toldFault_slip (s := s) rfl]
    have config : (queueSlip (composeSlip st u) u).stationConfig st = s.stationConfig st := by
      rw [State.stationConfig, queueSlip_config]; rfl
    rw [config]
    rfl
  case waits =>
    rw [closeSlot_waits (s := u) (by rw [slot.1]; exact lines) (by rw [slot.2.1]; exact slip) full, toldFault_same (by rfl)]

/-- Settles O32: TIMED-OUT, and the slot ended in the state that it leaves. -/
theorem inactivityEndsTheTransaction : Obligations.InactivityEndsTheTransaction := by
  unfold Obligations.InactivityEndsTheTransaction
  intro st p s run isOpen timer owner v u
  have ends : exec (.inactivityTimeout st) s = .next ((u.slotEnded st).toldFault u) := by
    have exec_ : exec (.inactivityTimeout st) s = .next (onInactivityTimeout st s) := rfl
    have told : tone st .attention (postOwner st (stationEvent .timedOut st) s) = u := by rw [postOwner, owner]; rfl
    rw [exec_, onInactivityTimeout, if_pos ⟨run, isOpen, timer⟩, told, faultLast_told (fed_endSlot ..), endSlot_eq]
  have slot : u.slot st = s.slot st := rfl
  have stillOwner : u.owner st = some p := owner
  rw [ends, State.slotEnded, slot, if_neg (by rw [isOpen]; simp)]
  refine ⟨fun bare => ?_, fun lines slip room => ?_, fun lines slip full => ?_⟩
  · rw [if_pos bare, endedAtOwner_eq stillOwner, toldFault_same (by rw [endedAt_slip _ _ _ _ stillOwner])]
  · rw [if_neg (by simp [lines, slip]), if_pos (show u.slip.queue.length < 8 from room),
      endedAtOwner_eq ((queueSlip_owner ..).trans stillOwner), toldFault_slip (s := s) rfl]
    rfl
  · rw [if_neg (by simp [lines, slip]), if_neg (show ¬ u.slip.queue.length < 8 from Nat.not_lt.mpr full), toldFault_same (by rfl)]

/-! ### OVERRIDE BLOCK (O23) -/

theorem overrideBlock_staff {p : Port} {st : Station} {s : State} (staff : (s.port p).role = .staff) :
    overrideBlock p [stationByte st] s = ifOwner p st s
      (match (s.slot st).state, (s.slot st).patron with
        | .patronBlocked, some patron => ifPowerGood s (ifRoom 1 s (done [] (overrideStep p st patron s)))
        | _, _ => refuse .wrongState s) := by
  refine (withStation_byte st ..).trans (if_neg ?_)
  rw [staff]; simp

theorem ifPowerGood_low {s : State} (power : s.pfail = false) (r : Answer) : ifPowerGood s r = r := by simp [ifPowerGood, power]
theorem ifPowerGood_high {s : State} (power : s.pfail = true) (r : Answer) : ifPowerGood s r = refuse .busy s := by
  simp [ifPowerGood, power]

theorem ifRoom_room {n : Nat} {s : State} (room : s.rm.journal.length + n ≤ 4096) (r : Answer) : ifRoom n s r = r :=
  if_pos (decide_eq_true room)

theorem ifRoom_full {n : Nat} {s : State} (full : 4096 < s.rm.journal.length + n) (r : Answer) :
    ifRoom n s r = refuse .journalFull s :=
  if_neg fun h => absurd (of_decide_eq_true h) (Nat.not_le.mpr full)

/-- Settles O23: the checks in their own order, and the step. -/
theorem overrideBlockLetsThePatronThrough : Obligations.OverrideBlockLetsThePatronThrough := by
  unfold Obligations.OverrideBlockLetsThePatronThrough
  intro p n s h
  have answers : ∀ r, overrideBlock p [n] s = r → exec (.overrideBlock p) s = .next (deliver p r) := fun r answer => by
    have exec_ : exec (.overrideBlock p) s = .next (runCommand 0x23#8 overrideBlock p s) := rfl
    rw [exec_, runCommand_eq overrideBlock h, answerOf_allowed (code := 0x23#8) overrideBlock (.inr rfl), answer]
  refine ⟨fun bad => answers _ (withStation_bad bad ..), ?_⟩
  rintro st rfl
  refine ⟨fun kiosk => answers _ ((withStation_byte st ..).trans (if_pos kiosk)), fun staff =>
    ⟨fun other => answers _ ((overrideBlock_staff staff).trans (ifOwner_other other _)), fun owner =>
      ⟨fun state => ?state, fun patron barred named => ⟨fun high => ?high, fun low full => ?full, fun low room => ?step⟩⟩⟩⟩
  all_goals have rule := (overrideBlock_staff (st := st) staff).trans (ifOwner_owner owner _)
  case state =>
    refine answers (refuse .wrongState s) (rule.trans ?_)
    split
    · rename_i barred _; exact absurd barred state
    · rfl
  all_goals simp only [barred, named] at rule
  case high => exact answers _ (rule.trans (ifPowerGood_high high _))
  case full => exact answers _ (rule.trans ((ifPowerGood_low low _).trans (ifRoom_full (by omega) _)))
  case step =>
    intro told u
    rw [answers _ (rule.trans ((ifPowerGood_low low _).trans (ifRoom_room (by omega) _))), deliver_done, overrideStep, endOfStep_eq]
    have same : restartTimer st (reportPatronOk st patron
        ((writeRecord { kind := .override, port := p, borrower := some patron } s).putSlot st
          { s.slot st with overridden := true, state := .serving })) = u := by
      have o : ((writeRecord { kind := .override, port := p, borrower := some patron } s).putSlot st
          { s.slot st with overridden := true, state := .serving }).owner st = some p := owner
      rw [reportPatronOk, postOwner, o]
      simp only [restartTimer, State.putSlot, State.slot, tone_slots, post_slots, PerStation.get_set_same, PerStation.set_set]
      rfl
    exact congrArg (fun t => Host.Outcome.next ((highWater t).withResult p [0x00#8])) same

end Sys2Proof.Machine
end

section
/-! PROOF. The SLIP UNIT: the commands and the queue (O43), the printer's events (O44) and the printed line (O45). -/

namespace Sys2Proof.Machine

/-! ### A slip in the queue (R128, R130, R133, R138) -/

/-- A slip numbered at the newest end of the queue, before the printer is asked. -/
def enqueued (sl : Slip) (s : State) : State :=
  { s with
    nextSlip := nextSlipNumber s.nextSlip,
    slip := { s.slip with
      queue := s.slip.queue ++ [numbered s sl], lastSlip := takeLast (numbered s sl) s.slip.lastSlip } }

theorem queueSlip_wakes {s : State} (asleep : s.slip.printer = .asleep) (empty : s.slip.queue = []) (sl : Slip) :
    queueSlip sl s = onSlip wake (enqueued sl s) := by
  unfold queueSlip
  rw [asleep]
  dsimp only
  rw [if_pos (by simp [empty])]
  rfl

theorem queueSlip_prints {s : State} (ready : s.slip.printer = .ready) (sl : Slip) :
    queueSlip sl s = onSlip (fun u => beginPrinting { u with idleTimer := none }) (enqueued sl s) := by
  simp only [queueSlip, ready]
  rfl

theorem queueSlip_joins {s : State} (busy : s.slip.printer ≠ .ready) (queue : s.slip.printer ≠ .asleep ∨ s.slip.queue ≠ [])
    (sl : Slip) : queueSlip sl s = enqueued sl s := by
  unfold queueSlip
  cases h : s.slip.printer with
  | asleep =>
    have some_ : s.slip.queue.isEmpty = false := by simpa [h] using queue
    simp only [some_, Bool.false_eq_true, if_false]
    rfl
  | ready => exact absurd h busy
  | _ => rfl

theorem beginPrinting_eq (u : SlipUnit) : beginPrinting u =
    { u with printer := (beginPrinting u).printer, feedLeft := (beginPrinting u).feedLeft, linesDone := 0, lineSent := false,
             output := (beginPrinting u).output } := by
  unfold beginPrinting sendHead
  split
  · rfl
  · split <;> rfl

theorem queueSlip_lastSlip (sl : Slip) (s : State) :
    (queueSlip sl s).slip.lastSlip = takeLast (numbered s sl) s.slip.lastSlip := by
  unfold queueSlip
  dsimp only
  split
  · split <;> rfl
  · rw [onSlip_slip, beginPrinting_eq]
  · rfl

theorem queueSlip_nextSlip (sl : Slip) (s : State) : (queueSlip sl s).nextSlip = nextSlipNumber s.nextSlip := by
  unfold queueSlip
  dsimp only
  split
  · split <;> rfl
  · rfl
  · rfl

theorem takeLast_eq (sl : Slip) (v : PerStation (Option Slip)) : takeLast sl v =
    if sl.kind = .note ∨ sl.kind = .copy then v else match sl.station with | some x => v.set x (some sl) | none => v := by
  unfold takeLast
  cases sl.kind <;> cases sl.station <;> rfl

theorem takeLast_get (sl : Slip) (v : PerStation (Option Slip)) (st : Station) : (takeLast sl v).get st =
    if sl.station = some st ∧ sl.kind ≠ .note ∧ sl.kind ≠ .copy then some sl else v.get st := by
  rw [takeLast_eq]
  by_cases apart : sl.kind = .note ∨ sl.kind = .copy
  · rw [if_pos apart, if_neg fun h => apart.elim h.2.1 h.2.2]
  · rw [if_neg apart]
    cases place : sl.station with
    | none => simp
    | some x =>
      by_cases h : x = st
      · subst h; simp [not_or.mp apart]
      · simp [h, PerStation.get_set_other _ _ (Ne.symm h)]

/-- The head slip sent from its first line, after the feed where one is owed (R139, R140). -/
theorem sendHead_eq (u : SlipUnit) : sendHead u =
    { u with printer := .printing, linesDone := 0, lineSent := false, feedLeft := if u.feedOwed then 2 else 0,
             output := if u.feedOwed then [0x0A#8] else (u.queue.head?.map (fun x => x.lineBytes 0)).getD [] } := by
  unfold sendHead
  cases owed : u.feedOwed with
  | true => rfl
  | false => cases queue : u.queue <;> simp

theorem beginPrinting_paper {u : SlipUnit} (paper : u.paperOut = false) : beginPrinting u = sendHead u := by
  simp [beginPrinting, paper]

theorem beginPrinting_none {u : SlipUnit} (none : u.paperOut = true) : beginPrinting u =
    { u with printer := .noPaper, feedLeft := 0, linesDone := 0, lineSent := false } := by simp [beginPrinting, none]

/-! ### The slip commands (O43) -/

theorem noteLines_flatten (lines : List (List Byte)) (h : ∀ l ∈ lines, l.length = 32) :
    noteLines lines.length lines.flatten = lines := by
  induction lines with
  | nil => rfl
  | cons l ls ih =>
    have len := h l (List.mem_cons_self ..)
    simp only [List.length_cons, List.flatten_cons, noteLines]
    rw [List.take_append_of_le_length (by omega), List.take_of_length_le (by omega), List.drop_append_of_le_length (by omega),
      List.drop_of_length_le (by omega), List.nil_append, ih fun x hx => h x (List.mem_cons_of_mem _ hx)]

theorem faultLast_queueSlip (sl : Slip) (s : State) : faultLast (queueSlip sl) s = (queueSlip sl s).toldFault s :=
  faultLast_told (fed_queueSlip sl s)

theorem slipRoom_of {s : State} (full : 8 ≤ s.slip.queue.length) : s.slipRoom = false := decide_eq_false (Nat.not_lt.mpr full)
theorem slipRoom_of_lt {s : State} (room : ¬ 8 ≤ s.slip.queue.length) : s.slipRoom = true := decide_eq_true (Nat.not_le.mp room)

theorem printable_eq (b : Byte) : printable b = if 0x20 ≤ b.toNat ∧ b.toNat ≤ 0x7E then b else 0x20#8 := by revert b; decide

theorem storedIdleTime_eq (n : Nat) :
    storedIdleTime n = if n = 0 then 0 else if n < 5 then 5 else if 600 < n then 600 else n := by
  unfold storedIdleTime
  split_ifs <;> omega

/-- Settles O43: the four rules, and a slip entering the queue by the printer's state. -/
theorem slipCommandsAndTheQueue : Obligations.SlipCommandsAndTheQueue := by
  unfold Obligations.SlipCommandsAndTheQueue
  refine ⟨fun p s => ⟨fun n h bad => ?noteBad, fun lines low high width h => ?note, fun n h bad => ?copyBad,
    fun st h => ⟨fun other => ?copyOther, fun owner none => ?copyNone, fun sl number owner last numbered => ?copy⟩,
    fun staff => ⟨fun text len h => ?header, fun t1 t0 h => ?idle⟩⟩, fun sl s => ?queue⟩
  case noteBad =>
    refine h.answers printNote (.inl rfl) (show _ = refuse .badParameter s from if_pos ?_)
    rcases bad with rfl | bad
    · exact .inl rfl
    · exact .inr bad
  case note =>
    have count : (byteAt (BitVec.ofNat 8 lines.length :: lines.flatten) 0).toNat = lines.length := by
      rw [byteAt_cons, BitVec.toNat_ofNat]; omega
    have ok : ¬ ((byteAt (BitVec.ofNat 8 lines.length :: lines.flatten) 0).toNat = 0 ∨
        6 < (byteAt (BitVec.ofNat 8 lines.length :: lines.flatten) 0).toNat) := by rw [count]; omega
    have rule : printNote p (BitVec.ofNat 8 lines.length :: lines.flatten) s = if s.slipRoom = false then refuse .full s
        else done (be16 s.nextSlip) (faultLast (queueSlip (noteSlip p lines s)) s) := by
      refine (if_neg ok).trans ?_
      rw [count, List.tail_cons, noteLines_flatten lines width]
    rw [h.answers printNote (.inl rfl) rule]
    by_cases full : 8 ≤ s.slip.queue.length
    · rw [if_pos full, if_pos (slipRoom_of full)]; rfl
    · rw [if_neg full, if_neg (by simp [slipRoom_of_lt full]), faultLast_queueSlip]; rfl
  case copyBad => exact h.answers reprintLast (.inl rfl) (withStation_bad bad ..)
  case copyOther => exact h.answers reprintLast (.inl rfl) ((withStation_byte st ..).trans (ifOwner_other other _))
  case copyNone =>
    have rule : reprintLast p [stationByte st] s = refuse .empty s := by
      refine ((withStation_byte st s _).trans (ifOwner_owner owner _)).trans ?_
      rw [none]
    exact h.answers reprintLast (.inl rfl) rule
  case copy =>
    have rule : reprintLast p [stationByte st] s =
        if s.slipRoom then done (be16 s.nextSlip) (faultLast (queueSlip (copySlip p sl)) s) else refuse .full s := by
      refine ((withStation_byte st s _).trans (ifOwner_owner owner _)).trans ?_
      rw [last]
    rw [h.answers reprintLast (.inl rfl) rule]
    by_cases full : 8 ≤ s.slip.queue.length
    · rw [if_pos full, if_neg (by simp [slipRoom_of full])]; rfl
    · rw [if_neg full, if_pos (slipRoom_of_lt full), faultLast_queueSlip, copySlip, numbered]; rfl
  case header =>
    have rule : setHeader p text s = done [] (s.withConfig { s.config with header := text.map printable }) := by
      rw [setHeader, List.take_of_length_le (by omega)]; rfl
    rw [h.answers setHeader (.inr staff) rule, deliver_done, funext printable_eq]
  case idle =>
    have rule : setPrinter p [t1, t0] s =
        done [] (s.withConfig { s.config with idleTime := storedIdleTime (t1.toNat * 256 + t0.toNat) }) := by
      rw [setPrinter, numAt_pair]; rfl
    rw [h.answers setPrinter (.inr staff) rule, deliver_done, storedIdleTime_eq]
  case queue =>
    intro q t
    refine ⟨queueSlip_queue sl s, queueSlip_nextSlip sl s, fun st => ?last, fun asleep empty => ?asleep, fun ready paper => ?prints,
      fun ready none => ?noPaper, fun busy queue => ?joins, queueSlip_frame sl s, queueSlip_waiting sl s⟩
    case last => rw [queueSlip_lastSlip, takeLast_get]; rfl
    case asleep => simp only [t, queueSlip_wakes asleep empty]; rfl
    case prints =>
      have head : (s.slip.queue ++ [numbered s sl]).head?.map (fun x => x.lineBytes 0) = some ((s.slip.queue.headD q).lineBytes 0) := by
        cases s.slip.queue <;> rfl
      simp only [t, queueSlip_prints ready, onSlip_slip, enqueued, beginPrinting, paper, Bool.false_eq_true, if_false, sendHead_eq, head,
        Option.getD_some]
    case noPaper => simp only [t, queueSlip_prints ready, onSlip_slip, enqueued, beginPrinting, none, if_true]
    case joins => simp only [t, queueSlip_joins busy queue]; rfl

/-! ### The printer's events (O44) -/

/-- Settles O44: each event by the printer's state. -/
theorem printerEvents : Obligations.PrinterEvents := by
  unfold Obligations.PrinterEvents
  intro sl rest s run fault sendsLine
  have sends : ∀ u, sendHead u = sendsLine u := sendHead_eq
  refine ⟨fun waking queue => ⟨fun paper => ?wakes, fun none => ?wakesNone⟩, fun printing queue => ?out, fun still => ?outElse,
    fun noPaper => ?restored, fun other => ?restoredElse, fun ready timer => ?expires, fun settling => ?settles⟩
  case wakes =>
    have exec_ : exec .wakeComplete s = .next (onWakeComplete s) := rfl
    rw [exec_, onWakeComplete, if_pos ⟨run, waking⟩]
    refine congrArg _ ((faultLast_quiet fun h => ?_).trans ?_)
    · rw [onSlip_slip, beginPrinting_paper paper, sendHead_eq] at h; cases h
    · rw [onSlip, beginPrinting_paper paper, sends]
  case wakesNone =>
    have exec_ : exec .wakeComplete s = .next (onWakeComplete s) := rfl
    rw [exec_, onWakeComplete, if_pos ⟨run, waking⟩, faultLast]
    dsimp only
    rw [onSlip, beginPrinting_none none, if_pos ⟨by simp [waking], rfl⟩, printerFault]
    simp only [SlipUnit.headNumber, queue]
    rfl
  case out =>
    have exec_ : exec .paperOut s = .next (onPaperOut s) := rfl
    have own : s.slip.ownLineSent = decide (s.slip.feedLeft = 0 ∧ (0 < s.slip.linesDone ∨ s.slip.lineSent = true)) := by
      rw [Bool.eq_iff_iff]; simp [SlipUnit.ownLineSent]
    rw [exec_, onPaperOut, if_pos ⟨run, printing⟩, own]
    simp only [onSlip, queue, printerFault, SlipUnit.headNumber]
    rfl
  case outElse => exact congrArg Host.Outcome.next (if_neg fun h => still h.2)
  case restored =>
    have exec_ : exec .paperRestored s = .next (onPaperRestored s) := rfl
    rw [exec_, onPaperRestored, if_pos ⟨run, noPaper⟩]
    simp only [onSlip, sends]
    rfl
  case restoredElse => exact congrArg Host.Outcome.next (if_neg fun h => other h.2)
  case expires => exact congrArg Host.Outcome.next (if_pos ⟨run, ready, timer⟩)
  case settles =>
    have exec_ : exec .settleComplete s = .next (onSettleComplete s) := rfl
    rw [exec_, onSettleComplete, if_pos ⟨run, settling⟩]
    cases queue : s.slip.queue with
    | nil => simp only [List.isEmpty_nil, if_true]; rfl
    | cons x xs => simp only [List.isEmpty_cons, Bool.false_eq_true, if_false, reduceCtorEq]; rfl

/-! ### The printed line (O45) -/

theorem length_line32 (l : List Byte) : (line32 l).length = 32 := by simp [line32]

theorem length_printed {sl : Slip} {i : Nat} (h : i < sl.printed.length) : (sl.printed.getD i []).length = 32 := by
  have mem : sl.printed.getD i [] ∈ sl.printed := by rw [List.getD_eq_getElem _ _ h]; exact List.getElem_mem h
  unfold Slip.printed at mem
  obtain ⟨l, _, e⟩ := List.mem_map.mp mem
  exact (congrArg List.length e.symm).trans (length_line32 l)

/-- The end of a transaction and the patron step go by no part of the SLIP UNIT. -/
theorem onSlip_reporting (f : SlipUnit → SlipUnit) (st : Station) (p : Port) (l : List Code) (s : State) :
    onSlip f (s.reporting st p l) = (onSlip f s).reporting st p l := by
  induction l generalizing s with
  | nil => rfl
  | cons c l ih => exact ih _

theorem onSlip_endedAt (f : SlipUnit → SlipUnit) (st : Station) (p : Port) (number : Option Nat) (s : State) :
    onSlip f (s.endedAt st p number) = (onSlip f s).endedAt st p number := onSlip_reporting f st p _ _

/-- A slot written twice, with an event between. -/
theorem putSlot_post_putSlot (s : State) (st : Station) (p : Port) (e : Event) (x y : Slot) :
    (post p e (s.putSlot st x)).putSlot st y = (post p e s).putSlot st y := by
  simp only [State.putSlot, post_slots, PerStation.set_set]
  rfl

theorem onSlip_patronStepAt (f : SlipUnit → SlipUnit) (st : Station) (p : Port) (c : Code) (s : State) :
    onSlip f (s.patronStepAt st p c) = (onSlip f s).patronStepAt st p c := by
  unfold State.patronStepAt
  dsimp only
  rw [apply_ite (onSlip f), apply_ite (onSlip f), apply_ite (onSlip f)]
  rfl

/-- AWAIT-PATRON in the mode and with the slip choice of `sl`, keeping the code while PFAIL is high (R111). -/
def State.reopenedAs (s : State) (st : Station) (c : Code) (sl : Slot) : State :=
  s.putSlot st
    { state := .awaitPatron, mode := sl.mode, slipWanted := sl.slipWanted, patron := none,
      patronClass := none, overridden := false, draft := [],
      timer := if (s.stationConfig st).timeout = 0 then none else some (s.stationConfig st).timeout,
      reopen := if s.pfail then some c else none }

theorem reopenSlot_eq {s : State} {st : Station} {p : Port} (owner : s.owner st = some p) (c : Code) (sl : Slot) :
    reopenSlot st sl.mode sl.slipWanted c s =
      if s.pfail then s.reopenedAs st c sl else (s.reopenedAs st c sl).patronStepAt st p c := by
  rw [reopenSlot, ← patronStepOf_eq (s := s.reopenedAs st c sl) owner]
  rfl

/-- A slot that leaves its transaction with a reopen-pending code, whether PFAIL keeps the code or not (R111). -/
theorem leaveSlot_reopens {s : State} {st : Station} {p : Port} (owner : s.owner st = some p) (number : Option Nat) (c : Code) :
    leaveSlot st number (some c) s =
      let u := (post p ⟨.transactionClosed, some st, none, number.map .number, none⟩ s).reopenedAs st c (s.slot st)
      if s.pfail then u else u.patronStepAt st p c := by
  have left : (leftSlot st number s).reopenedAs st c (s.slot st) =
      (post p ⟨.transactionClosed, some st, none, number.map .number, none⟩ s).reopenedAs st c (s.slot st) := by
    rw [leftSlot_eq owner]
    exact putSlot_post_putSlot ..
  have owner' : (leftSlot st number s).owner st = some p := by rw [leftSlot_eq owner]; exact owner
  have power : (leftSlot st number s).pfail = s.pfail := by rw [leftSlot_eq owner]; rfl
  rw [leaveSlot_some, reopenSlot_eq owner' c (s.slot st), left, power]

theorem onSlip_reopenedAs (f : SlipUnit → SlipUnit) (st : Station) (c : Code) (sl : Slot) (s : State) :
    onSlip f (s.reopenedAs st c sl) = (onSlip f s).reopenedAs st c sl := rfl

theorem onLinePrinted_whole {sl : Slip} {rest : List Slip} {s : State} (run : s.running = true) (printing : s.slip.printer = .printing)
    (queue : s.slip.queue = sl :: rest) (feed : s.slip.feedLeft = 0) (last : sl.printed.length ≤ s.slip.linesDone + 1) :
    onLinePrinted s = slipPrinted sl s := by
  unfold onLinePrinted
  rw [queue]
  dsimp only
  rw [if_pos ⟨run, printing⟩, if_neg (by omega), if_neg (by omega), if_neg (Nat.not_lt.mpr last)]

theorem slipGone_eq {sl : Slip} {rest : List Slip} {s : State} (queue : s.slip.queue = sl :: rest) : slipGone sl s =
    { post sl.port ⟨.slipPrinted, sl.station, none, sl.number.map .number, none⟩ s with slip := { s.slip with queue := rest } } := by
  rw [slipGone, onSlip, queue]
  rfl

/-- A slip printed whole while a slot waits: its slip is admitted at the newest end and the next one sent (R132, R139). -/
theorem slipPrinted_waiting {sl : Slip} {rest : List Slip} {s : State} {st : Station} {w : Slip} {more : List (Station × Slip)}
    (printing : s.slip.printer = .printing) (_ : s.slip.queue = sl :: rest) (waiting : s.slip.waiting = (st, w) :: more) :
    slipPrinted sl s = onSlip sendHead (leaveSlot st (some s.nextSlip) (s.slot st).reopen
      (enqueued w (onSlip (fun u => { u with waiting := more }) (slipGone sl s)))) := by
  have gone : (slipGone sl s).slip.printer = .printing := printing
  have joins : queueSlip w (onSlip (fun u => { u with waiting := more }) (slipGone sl s)) =
      enqueued w (onSlip (fun u => { u with waiting := more }) (slipGone sl s)) :=
    queueSlip_joins (by rw [onSlip_slip, gone]; simp) (.inl (by rw [onSlip_slip, gone]; simp)) w
  rw [slipPrinted_eq, admitWaiting_cons (show (slipGone sl s).slip.waiting = _ from waiting), joins]
  rw [if_neg]
  · rfl
  · rw [leaveSlot_slip]; simp [enqueued]

/-- Settles O45: the feed's lines, the slip's own, and a slip printed whole with and without a slot that waits. -/
theorem linePrintedSendsTheNext : Obligations.LinePrintedSendsTheNext := by
  unfold Obligations.LinePrintedSendsTheNext
  refine ⟨fun sl rest s run printing queue => ?_, fun sl i h => ⟨?_, ?_⟩⟩
  · intro told sends admitted
    have exec_ : exec .linePrinted s = .next (onLinePrinted s) := rfl
    have sendHeads : ∀ u, u.printer = .printing → sendHead u = sends u := fun u h => by
      rw [sendHead_eq]; simp only [sends, ← h]
    have admits : ∀ (w : Slip) (more : List (Station × Slip)) (u : State), u.config = s.config → u.nextSlip = s.nextSlip →
        onSlip sendHead (enqueued w { u with slip := { s.slip with queue := rest, waiting := more } }) = admitted w more u := by
      intro w more u config next
      let q : Slip := { w with number := some s.nextSlip, header := s.config.header, copyMark := false }
      let v : State := { u with slip := { s.slip with queue := rest, waiting := more } }
      have number : numbered v w = q := by
        show { w with number := some u.nextSlip, header := u.config.header, copyMark := false } = q
        rw [next, config]
      have entered : enqueued w v = { v with
          nextSlip := nextSlipNumber s.nextSlip,
          slip := { v.slip with queue := rest ++ [q], lastSlip := takeLast q s.slip.lastSlip } } := by
        rw [enqueued, number]
        show { v with nextSlip := nextSlipNumber u.nextSlip, slip := _ } = _
        rw [next]
      rw [entered, onSlip, takeLast_eq, sendHeads _ (by exact printing)]
      rfl
    have unwrapped := onLinePrinted_whole run printing queue
    rw [exec_]
    refine ⟨fun feed => ?_, fun feed => ?_, fun feed more => ?_, fun feed last none => ⟨fun empty => ?_, fun some_ => ?_⟩,
      fun st w more p feed last waiting owner none => ?_, fun st w more p c feed last waiting owner pending => ?_⟩
    · refine congrArg _ ?_
      unfold onLinePrinted
      rw [queue]
      dsimp only
      rw [if_pos ⟨run, printing⟩, if_pos (by omega), onSlip, feed]
      rfl
    · refine congrArg _ ?_
      unfold onLinePrinted
      rw [queue]
      dsimp only
      rw [if_pos ⟨run, printing⟩, if_neg (by omega), if_pos feed]
      simp [onSlip, sendHead, queue, printing]
    · refine congrArg _ ?_
      unfold onLinePrinted
      rw [queue]
      dsimp only
      rw [if_pos ⟨run, printing⟩, if_neg (by omega), if_neg (by omega), if_pos more]
      rfl
    · rw [unwrapped feed last, slipPrinted_eq, admitWaiting_nil (show (slipGone sl s).slip.waiting = [] from none), slipGone_eq queue,
        if_pos (by rw [empty]; rfl), empty]
      rfl
    · rw [unwrapped feed last, slipPrinted_eq, admitWaiting_nil (show (slipGone sl s).slip.waiting = [] from none), slipGone_eq queue,
        if_neg (by simpa using some_)]
      exact congrArg (fun u => Host.Outcome.next { told with slip := u }) (sendHeads { s.slip with queue := rest } printing)
    · rw [unwrapped feed last, slipPrinted_waiting printing queue waiting, none, leaveSlot_ended, slipGone_eq queue,
        endedAtOwner_eq (by exact owner), onSlip_endedAt]
      exact congrArg (fun u : State => Host.Outcome.next (u.endedAt st p (some s.nextSlip))) (admits w more told rfl rfl)
    · intro closed reopened
      have closing : post p ⟨.transactionClosed, some st, none, some (.number s.nextSlip), none⟩
          (enqueued w { told with slip := { s.slip with queue := rest, waiting := more } }) =
          enqueued w { closed with slip := { s.slip with queue := rest, waiting := more } } := rfl
      have sent : onSlip sendHead ((enqueued w { closed with slip := { s.slip with queue := rest, waiting := more } }).reopenedAs st c
          (s.slot st)) = reopened := by
        rw [onSlip_reopenedAs, admits w more closed rfl rfl]
        rfl
      rw [unwrapped feed last, slipPrinted_waiting printing queue waiting, pending, slipGone_eq queue,
        leaveSlot_reopens (by exact owner)]
      refine congrArg Host.Outcome.next (?_ : onSlip sendHead (if s.pfail = true then _ else _) = _)
      rw [apply_ite (onSlip sendHead), onSlip_patronStepAt]
      exact if_congr Iff.rfl sent (congrArg (fun u : State => u.patronStepAt st p c) sent)
  · rw [Slip.lineBytes, List.length_append, length_printed h]; rfl
  · rw [Slip.lineBytes]; simp [lineEnd]

end Sys2Proof.Machine
end

section
/-! PROOF. The ends of several transactions in one event: the change of mode (O38) and the port reset (O11). -/

namespace Sys2Proof.Machine

/-! ### Events only join the newest end of a queue (R182) -/

/-- The ports differ in their event queues alone, and what waited there still stands at the oldest end. -/
structure MoreEvents (s t : State) : Prop where
  port : ∀ p, t.port p = { s.port p with events := (t.port p).events, lost := (t.port p).lost }
  oldest : ∀ p, ∃ l, (t.port p).events = (s.port p).events ++ l

theorem MoreEvents.of_ports {s t : State} (h : t.ports = s.ports) : MoreEvents s t := by
  have port : ∀ p, t.port p = s.port p := fun p => by rw [State.port, State.port, h]
  exact ⟨fun p => by rw [port], fun p => ⟨[], by simp [port]⟩⟩

theorem MoreEvents.trans {s t u : State} (h : MoreEvents s t) (k : MoreEvents t u) : MoreEvents s u := by
  refine ⟨fun p => by rw [k.port p, h.port p], fun p => ?_⟩
  obtain ⟨l, hl⟩ := h.oldest p
  obtain ⟨m, hm⟩ := k.oldest p
  exact ⟨l ++ m, by rw [hm, hl, List.append_assoc]⟩

theorem MoreEvents.head {s t : State} (h : MoreEvents s t) {p : Port} {e : Event} (oldest : (s.port p).events.head? = some e) :
    (t.port p).events.head? = some e := by
  obtain ⟨l, hl⟩ := h.oldest p
  rw [hl, List.head?_append, oldest]
  rfl

theorem moreEvents_post (p : Port) (e : Event) (s : State) : MoreEvents s (post p e s) := by
  refine ⟨(post_same p e s).port, fun q => ?_⟩
  by_cases other : q = p
  · subst other
    rw [post_port, PortState.offer]
    split
    · exact ⟨[e], rfl⟩
    · exact ⟨[], by simp⟩
  · exact ⟨[], by rw [post, State.port_putPort_other _ _ other, List.append_nil]⟩

theorem moreEvents_reporting (st : Station) (p : Port) (codes : List Code) (s : State) : MoreEvents s (s.reporting st p codes) :=
  foldl_keeps (P := MoreEvents) (fun _ => .of_ports rfl) (fun _ _ _ => .trans) _ (fun t _ => moreEvents_post p _ t) codes s

theorem moreEvents_endedAtOwner (st : Station) (number : Option Nat) (s : State) : MoreEvents s (s.endedAtOwner st number) := by
  have freed (x : Slot) : MoreEvents s (s.putSlot st x) := .of_ports rfl
  unfold State.endedAtOwner
  split
  · exact ((freed _).trans (moreEvents_post ..)).trans (moreEvents_reporting ..)
  · exact freed _

theorem moreEvents_slotEnded (st : Station) (s : State) : MoreEvents s (s.slotEnded st) := by
  have queued : MoreEvents s (queueSlip (composeSlip st s) s) := .of_ports (by rw [queueSlip_frame])
  unfold State.slotEnded
  dsimp only
  split
  · exact .of_ports rfl
  · split
    · exact moreEvents_endedAtOwner ..
    · split
      · exact queued.trans (moreEvents_endedAtOwner ..)
      · exact .of_ports rfl

theorem moreEvents_toldFault (s t : State) : MoreEvents t (t.toldFault s) := by
  unfold State.toldFault
  dsimp only
  split
  · exact (moreEvents_post ..).trans (moreEvents_post ..)
  · exact .of_ports rfl

/-! ### The transactions of several stations ended in turn -/

theorem slotEnded_shut {s : State} {st : Station} (shut : (s.slot st).state.isOpen = false) : s.slotEnded st = s := by
  unfold State.slotEnded
  exact if_pos shut

theorem endFold_eq (l : List Station) (s : State) : l.foldl (fun t st => endSlot st t) s = l.foldl State.slotEnded s := by
  simp only [endSlot_eq]

theorem fed_endFold (l : List Station) (s : State) : Fed s (l.foldl State.slotEnded s) :=
  foldl_keeps (P := Fed) (fun _ => .of_slip rfl) (fun _ _ _ => .trans) _ (fun t st => endSlot_eq st t ▸ fed_endSlot st t) l s

theorem moreEvents_endFold (l : List Station) (s : State) : MoreEvents s (l.foldl State.slotEnded s) :=
  foldl_keeps (P := MoreEvents) (fun _ => .of_ports rfl) (fun _ _ _ => .trans) _ (fun t st => moreEvents_slotEnded st t) l s

/-- The end of other slots, or of one that is not open, leaves a slot as it is. -/
theorem endFold_slot {l : List Station} {s : State} {st : Station} (h : st ∉ l ∨ (s.slot st).state.isOpen = false) :
    ((l.foldl State.slotEnded s).slot st) = s.slot st := by
  induction l generalizing s with
  | nil => rfl
  | cons a l ih =>
    have kept : (s.slotEnded a).slot st = s.slot st := by
      by_cases same : st = a
      · subst same
        rw [slotEnded_shut (h.resolve_left (by simp))]
      · obtain ⟨_, x, slots, _, _⟩ := endSlot_slots a s
        rw [← endSlot_eq, State.slot, slots, PerStation.get_set_other _ _ same]
        rfl
    rw [List.foldl_cons, ih (s := s.slotEnded a) (by rw [kept]; exact h.imp_left fun k => fun m => k (List.mem_cons_of_mem a m)), kept]

/-- A slot that no code is to reopen is shut by its end in the turn. -/
theorem endFold_shut {l : List Station} {s : State} {st : Station} (none : (s.slot st).reopen = none)
    (h : (s.slot st).state.isOpen = false ∨ st ∈ l) : ((l.foldl State.slotEnded s).slot st).Shut := by
  induction l generalizing s with
  | nil => exact ⟨none, h.resolve_right (by simp)⟩
  | cons a l ih =>
    have step := endSlot_eq a s
    refine ih (s := s.slotEnded a) (step ▸ endSlot_keeps_reopen none) ?_
    rcases h with shut | mem
    · exact .inl (step ▸ (endSlot_keeps_shut ⟨none, shut⟩).state)
    · rcases List.mem_cons.mp mem with rfl | later
      · exact .inl (step ▸ (endSlot_shuts none).state)
      · exact .inr later

theorem endFold_allShut {l : List Station} {s : State} (h : ∀ st ∈ l, (s.slot st).state.isOpen = false) :
    l.foldl State.slotEnded s = s := by
  induction l with
  | nil => rfl
  | cons a l ih =>
    rw [List.foldl_cons, slotEnded_shut (h a (by simp)), ih fun st m => h st (List.mem_cons_of_mem a m)]

theorem endSlots_eq (l : List Station) (s : State) :
    endSlots l s = (l.foldl State.slotEnded (l.foldl (fun t st => clearReopen st t) s)).toldFault s := by
  have cleared : (l.foldl (fun t st => clearReopen st t) s).slip = s.slip :=
    foldl_keeps (P := fun a b : State => b.slip = a.slip) (fun _ => rfl) (fun _ _ _ h k => k.trans h)
      (fun t st => clearReopen st t) (fun _ _ => rfl) l s
  have fed : Fed s (l.foldl (fun t st => endSlot st t) (l.foldl (fun t st => clearReopen st t) s)) := by
    rw [endFold_eq]
    exact (Fed.of_slip cleared).trans (fed_endFold l _)
  rw [endSlots, faultLast_told (f := fun s => l.foldl (fun t st => endSlot st t) (l.foldl (fun t st => clearReopen st t) s)) fed,
    endFold_eq]

theorem toldFault_slots (t s : State) : (t.toldFault s).slots = t.slots := by
  unfold State.toldFault
  dsimp only
  split <;> rfl

/-! ### The change of mode (O38) -/

theorem clearFold_eq {s t : State} (h : t.slots = s.slots) : allStations.foldl (fun t st => clearReopen st t) t = { t with
    slots := ⟨{ s.slot .s0 with reopen := none }, { s.slot .s1 with reopen := none }, { s.slot .s2 with reopen := none },
      { s.slot .s3 with reopen := none }⟩ } := by
  simp only [State.slot, ← h]
  rfl

theorem modeFold_night {s t : State} (h : t.stations = s.stations) : allStations.foldl (modeStation .night) t = { t with
    stations := ⟨{ s.station .s0 with decoder := .disabled }, { s.station .s1 with decoder := .disabled },
      { s.station .s2 with decoder := .disabled }, { s.station .s3 with decoder := .disabled }⟩ } := by
  simp only [State.station, ← h]
  rfl

theorem post_enters (p : Port) (e : Event) (m : Mode) (s : State) :
    post p e { s with mode := m } = { post p e s with mode := m } := rfl

theorem modeEntered_night_eq (s : State) : modeEntered .night s =
    { post .B ⟨.modeChange, none, none, none, some (.mode .night)⟩ (post .A ⟨.modeChange, none, none, none, some (.mode .night)⟩ s) with
      mode := .night,
      stations := ⟨{ s.station .s0 with decoder := .disabled }, { s.station .s1 with decoder := .disabled },
        { s.station .s2 with decoder := .disabled }, { s.station .s3 with decoder := .disabled }⟩ } := by
  have posted := modeFold_night (s := s)
    (t := postAll ⟨.modeChange, none, none, none, some (.mode .night)⟩ { s with mode := .night }) rfl
  rw [modeEntered, posted, postAll, post_enters, post_enters]
  rfl

/-- A start of NIGHT before its open transactions end: both ports told, no wand decoding, no code left to reopen a slot (R22, R124). -/
def State.nightFallen (s : State) : State :=
  { post .B ⟨.modeChange, none, none, none, some (.mode .night)⟩ (post .A ⟨.modeChange, none, none, none, some (.mode .night)⟩ s) with
    mode := .night,
    stations := ⟨{ s.station .s0 with decoder := .disabled }, { s.station .s1 with decoder := .disabled },
      { s.station .s2 with decoder := .disabled }, { s.station .s3 with decoder := .disabled }⟩,
    slots := ⟨{ s.slot .s0 with reopen := none }, { s.slot .s1 with reopen := none }, { s.slot .s2 with reopen := none },
      { s.slot .s3 with reopen := none }⟩ }

theorem modeEntered_night_cleared (s : State) :
    allStations.foldl (fun t st => clearReopen st t) (modeEntered .night s) = s.nightFallen := by
  have slots : (modeEntered .night s).slots = s.slots := by rw [modeEntered_night_eq]; rfl
  have cleared := clearFold_eq slots
  rw [cleared, modeEntered_night_eq]
  rfl

theorem nightFallen_slot (s : State) (st : Station) : s.nightFallen.slot st = { s.slot st with reopen := none } := by cases st <;> rfl

theorem post_head {s : State} {p : Port} {e : Event} (empty : (s.port p).events = []) : ((post p e s).port p).events.head? = some e := by
  rw [post_port, PortState.offer, empty]
  rfl

theorem nightFallen_head {s : State} {p : Port} (empty : (s.port p).events = []) :
    (s.nightFallen.port p).events.head? = some ⟨.modeChange, none, none, none, some (.mode .night)⟩ := by
  cases p with
  | A => exact (moreEvents_post .B _ (post .A _ s)).head (post_head empty)
  | B => exact post_head (s := post .A _ s) (p := .B) empty

theorem changeMode_night_ended {s : State} (day : s.mode = .day) :
    changeMode .night s = (allStations.foldl State.slotEnded s.nightFallen).toldFault s := by
  have slip : (modeEntered .night s).slip = s.slip := by rw [modeEntered_night_eq]; rfl
  rw [changeMode_night (by simp [day]), endSlots_eq, modeEntered_night_cleared, toldFault_slip slip]

theorem changeMode_night_same {s : State} (day : s.mode = .day) : SameButEnds s.nightFallen (changeMode .night s) := by
  rw [changeMode_night_ended day]
  refine SameButEnds.trans (t := allStations.foldl State.slotEnded s.nightFallen) ?_ ?_
  · exact foldl_keeps (P := SameButEnds) .refl (fun _ _ _ => .trans) _ (fun t st => endSlot_eq st t ▸ endSlot_same st t) _ _
  · unfold State.toldFault
    dsimp only
    split <;> rfl

theorem changeMode_night_station {s : State} (day : s.mode = .day) (st : Station) :
    (changeMode .night s).station st = { s.station st with decoder := .disabled } := by
  rw [changeMode_night (by simp [day]), (endSlots_all ..).2, modeEntered_night_eq]
  cases st <;> rfl

theorem changeMode_night_shut {s : State} (day : s.mode = .day) (st : Station) : ((changeMode .night s).slot st).Shut := by
  rw [changeMode_night (by simp [day])]
  exact (endSlots_all ..).1

theorem changeMode_night_closing {s : State} (day : s.mode = .day) {st : Station} (closing : (s.slot st).state = .closing) :
    (changeMode .night s).slot st = { s.slot st with reopen := none } := by
  have slot := endFold_slot (l := allStations) (s := s.nightFallen) (st := st) (.inr (by rw [nightFallen_slot, closing]; rfl))
  rw [changeMode_night_ended day, State.slot, toldFault_slots, ← nightFallen_slot]
  exact slot

theorem setMode_eq (b : Byte) (p : Port) (s : State) : setMode p [b] s =
    if b = 0x00#8 then done [] (changeMode .day { s with modeHold := true })
    else if b = 0x01#8 then done [] (changeMode .night { s with modeHold := true }) else refuse .badParameter s := by
  rw [setMode, show byteAt [b] 0 = b from rfl, modeOfByte]
  by_cases zero : b = 0x00#8
  · rw [if_pos zero, if_pos zero]
  · by_cases one : b = 0x01#8
    · rw [if_neg zero, if_neg zero, if_pos one, if_pos one]
    · rw [if_neg zero, if_neg zero, if_neg one, if_neg one]

theorem changeMode_night_more {s : State} (day : s.mode = .day) : MoreEvents s.nightFallen (changeMode .night s) := by
  rw [changeMode_night_ended day]
  exact (moreEvents_endFold allStations s.nightFallen).trans (moreEvents_toldFault s _)

/-- The decoders of a start of DAY (R22). -/
theorem modeFold_day {s t : State} (h : t.stations = s.stations) : allStations.foldl (modeStation .day) t = { t with
    stations := ⟨{ s.station .s0 with decoder := if (s.station .s0).present then .waitQuiet else .disabled },
      { s.station .s1 with decoder := if (s.station .s1).present then .waitQuiet else .disabled },
      { s.station .s2 with decoder := if (s.station .s2).present then .waitQuiet else .disabled },
      { s.station .s3 with decoder := if (s.station .s3).present then .waitQuiet else .disabled }⟩ } := by
  simp only [State.station, ← h]
  rfl

theorem changeMode_day_eq {s : State} (night : s.mode = .night) : changeMode .day s =
    { post .B ⟨.modeChange, none, none, none, some (.mode .day)⟩ (post .A ⟨.modeChange, none, none, none, some (.mode .day)⟩ s) with
      mode := .day,
      stations := ⟨{ s.station .s0 with decoder := if (s.station .s0).present then .waitQuiet else .disabled },
        { s.station .s1 with decoder := if (s.station .s1).present then .waitQuiet else .disabled },
        { s.station .s2 with decoder := if (s.station .s2).present then .waitQuiet else .disabled },
        { s.station .s3 with decoder := if (s.station .s3).present then .waitQuiet else .disabled }⟩ } := by
  have posted := modeFold_day (s := s) (t := postAll ⟨.modeChange, none, none, none, some (.mode .day)⟩ { s with mode := .day }) rfl
  rw [changeMode_day (by simp [night]), modeEntered, posted, postAll, post_enters, post_enters]
  rfl

/-- Settles O38: the command, and the change of mode each way. -/
theorem changeOfModeReachesEveryBlock : Obligations.ChangeOfModeReachesEveryBlock := by
  unfold Obligations.ChangeOfModeReachesEveryBlock
  refine ⟨fun p b s h staff => ?command, fun s => ⟨changeMode_same rfl, fun day => ?night, fun night => ?day⟩⟩
  case command =>
    rw [h.answers setMode (.inr staff) (setMode_eq b p s)]
    split
    · rfl
    · split <;> rfl
  case night =>
    intro e u t
    have same : SameButEnds u t := changeMode_night_same day
    have kept {α : Type} (f : State → α) (keeps : f { u with
        stations := t.stations, slots := t.slots, slip := t.slip, nextSlip := t.nextSlip, ports := t.ports } = f s) : f t = f s :=
      (congrArg f same).trans keeps
    refine ⟨changeMode_night_ended day, congrArg State.mode same, kept State.rm rfl, kept State.link rfl, kept State.config rfl,
      fun st => ?_, fun p empty => ?_⟩
    · have station : t.station st = { s.station st with decoder := .disabled } := changeMode_night_station day st
      have shut : (t.slot st).Shut := changeMode_night_shut day st
      exact ⟨by rw [station], by rw [station], shut.state, shut.reopen, changeMode_night_closing day⟩
    · exact (changeMode_night_more day).head (nightFallen_head empty)
  case day =>
    exact ⟨by rw [changeMode_day_eq night]; rfl, fun st => by rw [changeMode_day_eq night]; cases st <;> rfl⟩

/-! ### No command stops the part -/

theorem SameButRecords.running {s t : State} (h : SameButRecords s t) : t.running = s.running := by rw [h]
theorem SameButDesk.running {s t : State} (h : SameButDesk s t) : t.running = s.running := by rw [h]
theorem SameButEnds.running {s t : State} (h : SameButEnds s t) : t.running = s.running := by rw [h]

theorem highWater_running (s : State) : (highWater s).running = s.running := by rw [highWater_frame]
theorem changeMode_running (m : Mode) (s : State) : (changeMode m s).running = s.running := by rw [changeMode_frame]

theorem judgeMode_running (s : State) : (judgeMode s).running = s.running := by
  unfold judgeMode
  dsimp only
  split
  · rfl
  · exact changeMode_running ..

theorem joinScans_running (st : Station) (c : Code) (s : State) : (joinScans st c s).running = s.running := by
  unfold joinScans scanReady
  dsimp only
  split
  · exact (postOwner_same ..).desk.running
  · rfl

theorem runFailed_running (r : FailReason) (s : State) : (runFailed r s).running = s.running := by rw [runFailed_frame]

theorem rejudgeMode_running (s : State) : (rejudgeMode s).running = s.running := by
  unfold rejudgeMode
  dsimp only
  split
  · rfl
  · exact changeMode_running ..

/-- The command leaves a running part running. -/
def Command.Steady (cmd : Command) : Prop := ∀ p ps s, (cmd p ps s).after.running = s.running

/-- The answer leaves the part running as it runs in `s`. -/
def Answer.Steady (r : Answer) (s : State) : Prop := r.after.running = s.running

theorem steady_refuse (c : Completion) (s : State) : (refuse c s).Steady s := rfl

theorem steady_ite {s : State} {c : Prop} [Decidable c] {a b : Answer} (h : a.Steady s) (k : b.Steady s) :
    (if c then a else b).Steady s := by
  split
  · exact h
  · exact k

theorem steady_withStation {b : Byte} {s : State} {k : Station → Answer} (h : ∀ st, (k st).Steady s) : (withStation b s k).Steady s := by
  unfold withStation
  split
  · exact h _
  · exact steady_refuse ..

theorem steady_ifOwner {p : Port} {st : Station} {s : State} {r : Answer} (h : r.Steady s) : (ifOwner p st s r).Steady s :=
  steady_ite h (steady_refuse ..)

theorem steady_ifPowerGood {s : State} {r : Answer} (h : r.Steady s) : (ifPowerGood s r).Steady s := steady_ite (steady_refuse ..) h

theorem steady_ifRoom {n : Nat} {s : State} {r : Answer} (h : r.Steady s) : (ifRoom n s r).Steady s := steady_ite h (steady_refuse ..)

theorem steady_recorded (bytes : List Byte) {s t : State} (h : SameButRecords s t) : (done bytes (highWater t)).Steady s :=
  (highWater_running t).trans h.running

theorem setItemFlagChecked_steady (p : Port) (item : Code) (flag : ItemFlag) (reserver : Option Code) (s : State) :
    (setItemFlagChecked p item flag reserver s).Steady s :=
  steady_ifPowerGood (steady_ite (steady_refuse ..) (steady_ifRoom (steady_recorded _
    ((putFlag_same ..).trans (writeRecord_same ..)))))

theorem handOn_running (s : State) : (handOn s).running = s.running := by
  rw [handOn, judgeLink_frame]
  exact judgeMode_running s

theorem setClockTo_running (day minute : Nat) (s : State) : (setClockTo day minute s).running = s.running := by
  unfold setClockTo
  rw [handOn_running]
  split
  · rfl
  · unfold callPurge
    split <;> rfl

theorem steady_stationCommands : Command.Steady assignStation ∧ Command.Steady stationStatus ∧ Command.Steady readScan ∧
    Command.Steady keyEntry ∧ Command.Steady setStation := by
  refine ⟨fun p ps s => steady_withStation fun st => ?_, fun p ps s => steady_withStation fun st => rfl,
    fun p ps s => steady_withStation fun st => steady_ifOwner (steady_ite (steady_refuse ..) ?_),
    fun p ps s => steady_withStation fun st => steady_ifOwner (steady_ite (steady_refuse ..) (steady_ite (steady_refuse ..) ?_)),
    fun p ps s => steady_withStation fun st => rfl⟩
  · split
    · exact steady_refuse ..
    · exact steady_ite (steady_refuse ..) rfl
  · split
    · exact steady_refuse ..
    · rfl
  · exact joinScans_running ..

theorem steady_portCommands : Command.Steady identify ∧ Command.Steady setAttention ∧ Command.Steady takeEvent ∧ Command.Steady portStatus := by
  refine ⟨fun p ps s => rfl, fun p ps s => ?_, fun p ps s => ?_, fun p ps s => rfl⟩
  · unfold setAttention; split <;> rfl
  · unfold takeEvent; split <;> rfl

theorem overrideStep_running (p : Port) (st : Station) (patron : Code) (s : State) : (overrideStep p st patron s).running = s.running := by
  unfold overrideStep
  exact (highWater_running _).trans (reportPatronOk_same ..).running

theorem faultLast_running {f : State → State} (h : ∀ s, (f s).running = s.running) (s : State) : (faultLast f s).running = s.running :=
  (faultLast_same f s).desk.running.trans (h s)

theorem steady_slotCommands : Command.Steady openTransaction ∧ Command.Steady closeTransaction ∧ Command.Steady cancelTransaction ∧
    Command.Steady overrideBlock ∧ Command.Steady transactionStatus := by
  refine ⟨fun p ps s => steady_withStation fun st => steady_ifOwner ?_,
    fun p ps s => steady_withStation fun st => steady_ifOwner (steady_ite ?_ (steady_refuse ..)),
    fun p ps s => steady_withStation fun st => steady_ifOwner (steady_ite (steady_refuse ..) (steady_ite ?_ (steady_refuse ..))),
    fun p ps s => steady_withStation fun st => steady_ite (steady_refuse ..) (steady_ifOwner ?_),
    fun p ps s => steady_withStation fun st => rfl⟩
  · split
    · exact steady_ite (steady_refuse ..) (steady_ite (steady_refuse ..) (steady_ite (steady_refuse ..) rfl))
    · exact steady_refuse ..
  · exact faultLast_running (fun s => (closeSlot_same ..).running) s
  · exact (leaveSlot_same ..).running
  · split
    · exact steady_ifPowerGood (steady_ifRoom (overrideStep_running ..))
    · exact steady_refuse ..

theorem steady_tableCommands : Command.Steady find ∧ Command.Steady abortFind ∧ Command.Steady readEntry ∧ Command.Steady recordPayment ∧
    Command.Steady addBlock ∧ Command.Steady removeBlock ∧ Command.Steady setItemFlag ∧ Command.Steady clearItemFlag ∧
    Command.Steady tableCounts := by
  refine ⟨fun p ps s => ?find, fun p ps s => ?abort, fun p ps s => ?read,
    fun p ps s => steady_ite (steady_refuse ..) (steady_ite (steady_refuse ..) (steady_ifPowerGood (steady_ifRoom
      (steady_recorded _ ((writeMoney_same ..).trans (runTest_same ..)))))),
    fun p ps s => steady_ite (steady_refuse ..) ?block,
    fun p ps s => steady_ite (steady_refuse ..) (steady_ifPowerGood (steady_ite (steady_refuse ..) (steady_ifRoom
      (steady_recorded _ ((removeBlockOf_same ..).trans (writeRecord_same ..)))))),
    fun p ps s => steady_ite (steady_refuse ..) ?flag,
    fun p ps s => steady_ite (steady_refuse ..) (steady_ifPowerGood (steady_ite (steady_refuse ..) (steady_ifRoom
      (steady_recorded _ ((removeFlagOf_same ..).trans (writeRecord_same ..)))))), fun p ps s => rfl⟩
  case find =>
    unfold find
    split
    · exact steady_ite (steady_refuse ..) (steady_ite (steady_refuse ..) (steady_ite (steady_refuse ..) rfl))
    · exact steady_refuse ..
  case abort => unfold abortFind; split <;> rfl
  case read =>
    unfold readEntry
    split
    · rfl
    · split <;> rfl
  case block =>
    split
    · exact steady_refuse ..
    · exact steady_ifPowerGood (steady_ite (steady_refuse ..) (steady_ite (steady_refuse ..) (steady_ifRoom
        (steady_recorded _ ((putBlock_same ..).trans (writeRecord_same ..))))))
  case flag =>
    split
    · exact steady_refuse ..
    · exact steady_ite (steady_refuse ..) (steady_ite (steady_refuse ..) (setItemFlagChecked_steady ..))
    · exact setItemFlagChecked_steady ..

theorem steady_calendarCommands : Command.Steady setClock ∧ Command.Steady readClock ∧ Command.Steady setHours ∧
    Command.Steady addClosure ∧ Command.Steady removeClosure ∧ Command.Steady setPeriod ∧ Command.Steady setItemClass ∧
    Command.Steady setBorrowerClass ∧ Command.Steady computeDueCommand ∧ Command.Steady setThreshold := by
  refine ⟨fun p ps s => steady_ite (steady_refuse ..) (setClockTo_running ..), fun p ps s => rfl, fun p ps s => ?hours,
    fun p ps s => steady_ite (steady_refuse ..) (steady_ifPowerGood (steady_ite (steady_refuse ..) (steady_ite (steady_refuse ..) rfl))),
    fun p ps s => steady_ifPowerGood (steady_ite rfl (steady_refuse ..)), fun p ps s => ?period, fun p ps s => ?item,
    fun p ps s => ?borrower, fun p ps s => ?due, fun p ps s => rfl⟩
  case hours =>
    unfold setHours
    split
    · rfl
    · exact steady_ite (steady_refuse ..) rfl
  case period => unfold setPeriod; split <;> rfl
  case item => unfold setItemClass; split <;> rfl
  case borrower => unfold setBorrowerClass; split <;> rfl
  case due =>
    unfold computeDueCommand
    split
    · exact steady_ite (steady_refuse ..) rfl
    · rfl

theorem steady_slipAndLinkCommands : Command.Steady printNote ∧ Command.Steady reprintLast ∧ Command.Steady printerStatus ∧
    Command.Steady setHeader ∧ Command.Steady setPrinter ∧ Command.Steady startUpload ∧ Command.Steady stopUpload ∧
    Command.Steady linkStatus ∧ Command.Steady setLink ∧ Command.Steady setMode := by
  have queued (sl : Slip) (s : State) : (faultLast (queueSlip sl) s).running = s.running :=
    faultLast_running (fun s => (queueSlip_same sl s).ends.running) s
  refine ⟨fun p ps s => steady_ite (steady_refuse ..) (steady_ite (steady_refuse ..) (queued ..)),
    fun p ps s => steady_withStation fun st => steady_ifOwner ?reprint, fun p ps s => rfl, fun p ps s => rfl, fun p ps s => rfl,
    fun p ps s => steady_ite (steady_refuse ..) rfl, fun p ps s => steady_ite (runFailed_running ..) (steady_refuse ..),
    fun p ps s => rfl, fun p ps s => steady_ite (steady_refuse ..) (steady_ite (steady_refuse ..) (rejudgeMode_running ..)),
    fun p ps s => ?mode⟩
  case reprint =>
    split
    · exact steady_refuse ..
    · exact steady_ite (queued ..) (steady_refuse ..)
  case mode =>
    unfold setMode
    split
    · exact changeMode_running ..
    · rfl

theorem rules_steady : ∀ x ∈ commandRules, Command.Steady x.2 := by
  have ⟨a1, a2, a3, a4⟩ := steady_portCommands
  have ⟨b1, b2, b3, b4, b5⟩ := steady_stationCommands
  have ⟨c1, c2, c3, c4, c5⟩ := steady_slotCommands
  have ⟨d1, d2, d3, d4, d5, d6, d7, d8, d9⟩ := steady_tableCommands
  have ⟨e1, e2, e3, e4, e5, e6, e7, e8, e9, e10⟩ := steady_calendarCommands
  have ⟨f1, f2, f3, f4, f5, f6, f7, f8, f9, f10⟩ := steady_slipAndLinkCommands
  simp only [commandRules, List.forall_mem_append, List.forall_mem_cons, List.not_mem_nil, false_imp_iff, implies_true, and_true]
  exact ⟨⟨⟨⟨⟨⟨a1, a2, a3, a4, b1, b2, b3, b4, b5⟩, c1, c2, c3, c4, c5⟩, d1, d2, d3, d4, d5, d6, d7, d8, d9⟩,
    e1, e2, e3, e4, e5, e6, e7, e8, e9, e10⟩, f1, f2, f3, f4, f5⟩, f6, f7, f8, f9, f10⟩

theorem runBuffered_running (p : Port) (s : State) : (runBuffered p s).running = s.running := by
  unfold runBuffered
  split
  · rfl
  · rename_i code _ _
    split
    · rename_i cmd rule
      unfold runCommand
      split
      · exact steady_ite (steady_refuse ..) (rules_steady _ (mem_of_lookup rule) ..)
      · rfl
    · rfl

/-- A command in EXECUTING has one effect: its port holds the result after it, or it was none of the table. -/
theorem runBuffered_once (p : Port) (s : State) :
    runBuffered p s = s ∨ ((runBuffered p s).port p).phase = .result := by
  unfold runBuffered
  split
  · exact .inl rfl
  · split
    · unfold runCommand
      split
      · exact .inr (by simp [deliver])
      · exact .inl rfl
    · exact .inl rfl

/-! ### The port reset (O11) -/

/-- A port reset before its stations' transactions end: the port cleared, and no code left to reopen its slots (R178). -/
def State.portCleared (s : State) (p : Port) : State :=
  let cleared := fun st => if s.owner st = some p then { s.slot st with reopen := none } else s.slot st
  { s.putPort p { s.port p with
      phase := .commandIdle, command := [], result := [], ignored := false, events := [], lost := 0, search := none } with
    slots := ⟨cleared .s0, cleared .s1, cleared .s2, cleared .s3⟩ }

/-- The stations that the port owns, in ascending order, by decision. -/
theorem ownedBy_eq (s : State) (p : Port) :
    s.ownedBy p = ([.s0, .s1, .s2, .s3] : List Station).filter (fun st => decide (s.owner st = some p)) := by
  unfold State.ownedBy allStations
  exact List.filter_congr fun st _ => by rw [Bool.eq_iff_iff]; simp

theorem clearFold_slots (l : List Station) (s : State) :
    ∃ x, l.foldl (fun t st => clearReopen st t) s = { s with slots := x } ∧
      ∀ st, x.get st = if st ∈ l then { s.slot st with reopen := none } else s.slot st := by
  induction l generalizing s with
  | nil => exact ⟨s.slots, rfl, fun st => by simp [State.slot]⟩
  | cons a l ih =>
    obtain ⟨x, e, get⟩ := ih (clearReopen a s)
    refine ⟨x, e, fun st => ?_⟩
    rw [get]
    by_cases same : st = a
    · subst same
      simp [clearReopen, State.slot, State.putSlot]
    · simp [clearReopen, State.slot_putSlot_other _ _ same, same]

theorem perStation_ext {α : Type} {x y : PerStation α} (h : ∀ st, x.get st = y.get st) : x = y := by
  obtain ⟨a, b, c, d⟩ := x
  obtain ⟨a', b', c', d'⟩ := y
  exact PerStation.mk.injEq .. ▸ ⟨h .s0, h .s1, h .s2, h .s3⟩

theorem mem_ownedBy {s : State} {p : Port} {st : Station} : st ∈ s.ownedBy p ↔ s.owner st = some p := by
  simp [State.ownedBy, mem_allStations]

theorem resetFold_eq (p : Port) (s : State) :
    (s.ownedBy p).foldl (fun t st => clearReopen st t) (s.putPort p (s.port p).cleared) = s.portCleared p := by
  obtain ⟨x, e, get⟩ := clearFold_slots (s.ownedBy p) (s.putPort p (s.port p).cleared)
  have slots : x = (s.portCleared p).slots := perStation_ext fun st => by
    rw [get]
    simp only [mem_ownedBy]
    cases st <;> rfl
  rw [e, slots]
  rfl

theorem resetPort_eq (p : Port) (s : State) :
    resetPort p s = ((s.ownedBy p).foldl State.slotEnded (s.portCleared p)).toldFault s := by
  rw [resetPort, endSlots_eq, resetFold_eq, toldFault_slip (s := s) (by rfl)]

theorem portCleared_slot (s : State) (p : Port) (st : Station) :
    (s.portCleared p).slot st = if s.owner st = some p then { s.slot st with reopen := none } else s.slot st := by
  cases st <;> rfl

theorem portCleared_port (s : State) (p q : Port) :
    (s.portCleared p).port q = if q = p then (s.port p).cleared else s.port q := by
  cases p <;> cases q <;> rfl

theorem endFold_stations (l : List Station) (s : State) : (l.foldl State.slotEnded s).stations = s.stations :=
  foldl_keeps (P := fun a b : State => b.stations = a.stations) (fun _ => rfl) (fun _ _ _ h k => k.trans h) State.slotEnded
    (fun t st => endSlot_eq st t ▸ (endSlot_slots st t).1) l s

theorem toldFault_stations (t s : State) : (t.toldFault s).stations = t.stations := by
  unfold State.toldFault
  dsimp only
  split <;> rfl

theorem endFold_same (l : List Station) (s : State) : SameButEnds s (l.foldl State.slotEnded s) :=
  foldl_keeps (P := SameButEnds) .refl (fun _ _ _ => .trans) _ (fun t st => endSlot_eq st t ▸ endSlot_same st t) l s

theorem toldFault_ends (t s : State) : SameButEnds t (t.toldFault s) := by
  unfold State.toldFault
  dsimp only
  split <;> rfl

theorem resetPort_same (p : Port) (s : State) : SameButEnds (s.portCleared p) (resetPort p s) :=
  resetPort_eq p s ▸ (endFold_same ..).trans (toldFault_ends ..)

theorem resetPort_more (p : Port) (s : State) : MoreEvents (s.portCleared p) (resetPort p s) :=
  resetPort_eq p s ▸ (moreEvents_endFold ..).trans (moreEvents_toldFault ..)

theorem resetPort_slot (p : Port) (s : State) (st : Station) :
    (resetPort p s).slot st = ((s.ownedBy p).foldl State.slotEnded (s.portCleared p)).slot st := by
  rw [resetPort_eq, State.slot, toldFault_slots]
  rfl

theorem resetPort_stations (p : Port) (s : State) : (resetPort p s).stations = s.stations := by
  rw [resetPort_eq, toldFault_stations, endFold_stations]
  rfl

theorem resetPort_shut {p : Port} {s : State} {st : Station} (owner : s.owner st = some p) : ((resetPort p s).slot st).Shut := by
  rw [resetPort_slot]
  exact endFold_shut (by rw [portCleared_slot, if_pos owner]) (.inr (mem_ownedBy.mpr owner))

theorem resetPort_other {p : Port} {s : State} {st : Station} (other : s.owner st ≠ some p) :
    (resetPort p s).slot st = s.slot st := by
  rw [resetPort_slot, endFold_slot (.inl (mt mem_ownedBy.mp other)), portCleared_slot, if_neg other]

theorem resetPort_allShut {p : Port} {s : State} (h : ∀ st, s.owner st = some p → (s.slot st).state.isOpen = false) :
    resetPort p s = s.portCleared p := by
  rw [resetPort_eq, endFold_allShut fun st m => ?_]
  · exact toldFault_same (by rfl)
  · have owner := mem_ownedBy.mp m
    rw [portCleared_slot, if_pos owner]
    exact h st owner

/-- Settles O11: a command in EXECUTING first, then the port cleared and its slots ended in turn. -/
theorem portResetEndsThePortsWork : Obligations.PortResetEndsThePortsWork := by
  unfold Obligations.PortResetEndsThePortsWork
  intro p s run
  have reset : ∀ u : State, u.running = true → exec (.portReset p) u =
      .next (if (u.port p).phase = .executing then resetPort p (runBuffered p u) else resetPort p u) := fun u run =>
    congrArg Host.Outcome.next (if_pos run)
  refine ⟨fun executing => ?_, fun still => ?_⟩
  · rw [reset s run, if_pos executing, reset _ ((runBuffered_running p s).trans run)]
    rcases runBuffered_once p s with same | result
    · rw [same, if_pos executing, same]
    · rw [if_neg (by rw [result]; simp)]
  · intro cleared u owned
    have same := resetPort_same p s
    have more := resetPort_more p s
    refine ⟨resetPort p s, by rw [reset s run, if_neg still], by rw [resetPort_eq, ownedBy_eq]; rfl, fun q => ?_,
      fun st owner => ⟨(resetPort_shut owner).reopen, (resetPort_shut owner).state⟩, fun st other => resetPort_other other,
      resetPort_stations p s, by rw [same]; rfl, by rw [same]; rfl, by rw [same]; rfl, by rw [same]; rfl,
      by rw [same]; rfl, fun shut => ⟨resetPort_allShut shut, fun st owner => ?_⟩⟩
    · rw [more.port q, portCleared_port]
      by_cases other : q = p
      · subst other; simp [PortState.cleared]
      · simp [other]
    · rw [resetPort_allShut shut, portCleared_slot, if_pos owner]

end Sys2Proof.Machine
end

section
/-! PROOF. The upload link but for its answers: runs (O46), contention (O48, O49), frames sent and timeouts (O50), SET LINK (O47). -/

namespace Sys2Proof.Machine

/-! ### How runs begin and end -/

/-- The frame that the journal calls for, by a record that is PENDING (R153). -/
theorem frameWanted_eq (s : State) : s.frameWanted = if ∃ r ∈ s.rm.journal, r.sent = false then .data none else .poll := by
  have none_iff : s.pendingCount = 0 ↔ ¬ ∃ r ∈ s.rm.journal, r.sent = false := by simp [State.pendingCount]
  unfold State.frameWanted
  by_cases some_ : ∃ r ∈ s.rm.journal, r.sent = false
  · rw [if_pos some_, if_neg (mt none_iff.mp (not_not.mpr some_))]
  · rw [if_neg some_, if_pos (none_iff.mpr some_)]

theorem beginRun_eq (s : State) : beginRun s = s.begun := by
  unfold beginRun State.begun onLink
  rw [frameWanted_eq]

theorem inRun_iff (x : RunState) : x.inRun = true ↔ ¬ (x = .idle ∨ x = .armed) := by cases x <;> simp [RunState.inRun]

/-- Settles O46: the retry expiry, START UPLOAD and STOP UPLOAD. -/
theorem runsBeginAndAreStopped : Obligations.RunsBeginAndAreStopped := by
  unfold Obligations.RunsBeginAndAreStopped
  intro p s begun idleOrArmed
  refine ⟨fun run armed retry => ?expiry, fun staff h => ⟨fun free => ?begins, fun busy => ?busy⟩,
    fun staff h => ⟨fun free => ?wrong, fun runs => ?stops⟩⟩
  case expiry =>
    have exec_ : exec .retryExpiry s = .next (onRetryExpiry s) := rfl
    rw [exec_, onRetryExpiry, if_pos ⟨run, armed, .inl retry⟩, beginRun_eq]
  case begins =>
    have rule : startUpload p [] s = done [] begun := (if_neg (by rw [inRun_iff]; exact not_not.mpr free)).trans (by rw [beginRun_eq])
    rw [h.answers startUpload (.inr staff) rule, deliver_done]
  case busy =>
    have rule : startUpload p [] s = refuse .busy s := if_pos ((inRun_iff _).mpr busy)
    rw [h.answers startUpload (.inr staff) rule]
    rfl
  case wrong =>
    have rule : stopUpload p [] s = refuse .wrongState s := if_neg (by rw [inRun_iff]; exact not_not.mpr free)
    rw [h.answers stopUpload (.inr staff) rule]
    rfl
  case stops =>
    have rule : stopUpload p [] s = done [] (runFailed .stopped (onLink (fun l => { l with jam := none, sending := [] }) s)) :=
      if_pos ((inRun_iff _).mpr runs)
    have stopped : ∀ w, stateAfterFailure .stopped w = .idle := fun w => by simp [stateAfterFailure]
    rw [h.answers stopUpload (.inr staff) rule, deliver_done]
    refine ⟨_, rfl, ?_, ?_, ?_, ?_⟩
    · rw [runFailed_frame]; rfl
    · unfold runFailed
      rw [stopped]
      dsimp only
      rw [onLink, (postStaff_same ..).eq]
      rfl
    · rw [runFailed_frame]
      exact postStaff_ports_congr (by rfl) _
    · rw [runFailed_frame]
      rfl

/-! ### Contention (O48, O49) -/

theorem seeksGap_gap {s : State} {n : Nat} (run : s.running = true) (contend : s.link.run = .contend) (jam : s.link.jam = none)
    (gap : s.link.seek = .gap n) : s.seeksGap = some n := by
  unfold State.seeksGap
  rw [if_pos ⟨run, contend, jam⟩, gap]

theorem retry_after (windowOpen : Bool) (n : Nat) :
    (if (if windowOpen = true then RunState.armed else .idle) = .armed then some n else none) =
      if windowOpen = true then some n else none := by
  cases windowOpen <;> rfl

/-- A run that fails with another reason than STOPPED (R161). -/
theorem runFailed_eq {r : FailReason} (other : r ≠ .stopped) (s : State) : runFailed r s = s.failedRun r := by
  have after : stateAfterFailure r s.link.windowOpen = if s.link.windowOpen then .armed else .idle := by
    simp [stateAfterFailure, other]
  have ports : (postStaff { kind := .uploadFailed, reason := some (.fail r) } (unsend s)).ports =
      (postStaff ⟨.uploadFailed, none, none, none, some (.fail r)⟩ s).ports := postStaff_ports_congr (s := unsend s) (t := s) rfl _
  rw [runFailed_frame, State.failedRun, ports, (postStaff_same _ s).eq]
  unfold runFailed
  rw [after]
  dsimp only
  rw [retry_after, onLink, (postStaff_same _ (unsend s)).eq]
  rfl

/-- A run that fails in an event that has moved the link before. -/
theorem failedRun_onLink (f : Link → Link) (r : FailReason) (s : State) : (onLink f (unsend s)).failedRun r =
    { s.failedRun r with link := { f s.link with
      run := if (f s.link).windowOpen then .armed else .idle, outcome := .failed r, frame := .none, seek := .off,
      replyTimer := false, reply := none, retry := if (f s.link).windowOpen then some s.config.retryInterval else none } } := by
  have ports : (postStaff ⟨.uploadFailed, none, none, none, some (.fail r)⟩ (onLink f (unsend s))).ports =
      (postStaff ⟨.uploadFailed, none, none, none, some (.fail r)⟩ s).ports :=
    postStaff_ports_congr (s := onLink f (unsend s)) (t := s) rfl _
  have unsent : ((onLink f (unsend s)).rm.journal.map fun x => { x with sent := false }) =
      s.rm.journal.map fun x => { x with sent := false } := by
    show (s.rm.journal.map _).map _ = _
    rw [List.map_map]
    rfl
  unfold State.failedRun
  rw [(postStaff_same _ (onLink f (unsend s))).eq, (postStaff_same _ s).eq, ports, unsent]
  rfl

/-- Settles O48: each event of the gap by the gap count and the frame in flight. -/
theorem gapIsSoughtAndWon : Obligations.GapIsSoughtAndWon := by
  unfold Obligations.GapIsSoughtAndWon
  intro n s run contend jam gap
  have seeks := seeksGap_gap run contend jam gap
  refine ⟨?activity, ?committed, fun poll => ?poll, fun formed first others data journal => ?data, fun below => ?noLine⟩
  case activity =>
    have exec_ : exec .lineActivity s = .next (onLineActivity s) := rfl
    rw [exec_, onLineActivity, seeks]
    rfl
  case committed =>
    have exec_ : exec .gapCommitted s = .next (onGapCommitted s) := rfl
    rw [exec_, onGapCommitted, seeks]
    rfl
  case poll =>
    have exec_ : exec .gapWon s = .next (onGapWon s) := rfl
    rw [exec_, onGapWon, seeks, poll]
    rfl
  case data =>
    intro count sent
    have exec_ : exec .gapWon s = .next (onGapWon s) := rfl
    have marked : (markSent count s).rm.journal.take count = sent := by
      show (sent ++ s.rm.journal.drop count).take count = sent
      rw [List.take_left' (by simp [sent, count])]
    have head : ((markSent count s).rm.journal.head?.map Record.seq).getD 0 = first.seq := by
      have length : count = min 7 others.length + 1 := by simp [count, journal]; omega
      have split : sent = { first with sent := true } :: (others.take (min 7 others.length)).map (fun r => { r with sent := true }) := by
        simp only [sent, journal, length, List.take_succ_cons, List.map_cons]
      show (((sent ++ s.rm.journal.drop count).head?).map Record.seq).getD 0 = first.seq
      rw [split]
      rfl
    have won : onGapWon s = sendDataFrame s := by rw [onGapWon, seeks, data]
    have formed : sendDataFrame s = onLink (fun l => { l with
        run := .sendData, frame := .data (some (((markSent count s).rm.journal.head?.map Record.seq).getD 0, count)), seek := .off,
        sending := s.deskFrame kindData (((markSent count s).rm.journal.head?.map Record.seq).getD 0)
          (((markSent count s).rm.journal.take count).flatMap Record.bytes) }) (markSent count s) := rfl
    rw [exec_, won, formed, head, marked]
    rfl
  case noLine =>
    have exec_ : exec .noLine s = .next (onNoLine s) := rfl
    rw [exec_, onNoLine, seeks]
    exact congrArg Host.Outcome.next ((if_pos below).trans (runFailed_eq (by simp) s))

/-- One step of the generator, bit by bit (R152). -/
theorem randomStep_low (g : Word16) : (randomStep g).getLsbD 0 =
    (((g.getLsbD 15 ^^ g.getLsbD 13) ^^ g.getLsbD 12) ^^ g.getLsbD 10) := by
  simp [randomStep]

theorem randomStep_shift (g : Word16) {i : Nat} (h : i < 15) : (randomStep g).getLsbD (i + 1) = g.getLsbD i := by
  simp [randomStep, show i + 1 < 16 by omega, BitVec.getLsbD_eq_getElem (show i < 16 by omega)]

/-- Settles O49: the collision by the attempts, the jam's end by its kind, the backoff's end and the generator. -/
theorem collisionsBackOff : Obligations.CollisionsBackOff := by
  unfold Obligations.CollisionsBackOff
  intro s run
  have ended : exec .jamEnd s = .next (onJamEnd s) := rfl
  refine ⟨fun sends => ⟨fun few => ?again, fun many => ?fails⟩, fun jam => ?backoff, fun jam => ?reply, fun jam => ?runOver,
    fun slots seek contend => ?backoffEnd, randomStep s.link.random, ?step, randomStep_low _, fun i h => randomStep_shift _ h⟩
  case again =>
    have exec_ : exec .collision s = .next (onCollision s) := rfl
    rw [exec_, onCollision, if_pos ⟨run, sends⟩]
    dsimp only
    rw [if_neg (by omega)]
    rfl
  case fails =>
    have exec_ : exec .collision s = .next (onCollision s) := rfl
    rw [exec_, onCollision, if_pos ⟨run, sends⟩]
    dsimp only
    rw [if_pos many, runFailed_eq (by simp), failedRun_onLink]
    rfl
  case backoff => rw [ended, onJamEnd, if_pos run, jam]; rfl
  case reply => rw [ended, onJamEnd, if_pos run, jam]; rfl
  case runOver => rw [ended, onJamEnd, if_pos run, jam]; rfl
  case backoffEnd =>
    have exec_ : exec .backoffEnd s = .next (onBackoffEnd s) := rfl
    rw [exec_, onBackoffEnd, seek]
    dsimp only
    rw [if_pos ⟨run, contend⟩]
    rfl
  case step => exact congrArg Host.Outcome.next (if_pos run)

/-! ### Frames sent, replies and timeouts (O50) -/

/-- Settles O50: each event in the state of the run that it answers, and the timeout by its count. -/
theorem framesSentRepliesAndTimeouts : Obligations.FramesSentRepliesAndTimeouts := by
  unfold Obligations.FramesSentRepliesAndTimeouts
  refine ⟨fun s run => ⟨fun data => ?data, fun poll => ?poll, fun seq count sends jam reply => ?delay,
    fun seq count sends jam reply => ?sent, fun cause => rfl⟩, fun s run timer awaits => ⟨fun few => ?again, fun many => ?fails⟩⟩
  case data =>
    have exec_ : exec .dataFrameSent s = .next (onDataFrameSent s) := rfl
    rw [exec_, onDataFrameSent, if_pos ⟨run, data⟩]
    rfl
  case poll =>
    have exec_ : exec .pollSent s = .next (onPollSent s) := rfl
    rw [exec_, onPollSent, if_pos ⟨run, poll⟩]
    rfl
  case delay =>
    have exec_ : exec .replyDelayEnd s = .next (onReplyDelayEnd s) := rfl
    rw [exec_, onReplyDelayEnd, reply]
    exact congrArg Host.Outcome.next (if_pos ⟨run, sends, jam, rfl⟩)
  case sent =>
    have sending : s.sendsReply = true := by simp [State.sendsReply, run, sends, jam, reply]
    have exec_ : exec .replySent s = .next (onReplySent s) := rfl
    have exec_' : exec .replyCollision s = .next (onReplyCollision s) := rfl
    rw [exec_, exec_', onReplySent, onReplyCollision, if_pos sending, if_pos sending]
    exact ⟨rfl, rfl⟩
  case again =>
    have exec_ : exec .replyTimeout s = .next (onReplyTimeout s) := rfl
    rw [exec_, onReplyTimeout, if_pos ⟨run, timer, awaits⟩]
    dsimp only
    rw [if_neg (by omega)]
    rfl
  case fails =>
    have exec_ : exec .replyTimeout s = .next (onReplyTimeout s) := rfl
    rw [exec_, onReplyTimeout, if_pos ⟨run, timer, awaits⟩]
    dsimp only
    rw [if_pos many, runFailed_eq (by simp), failedRun_onLink]
    rfl

/-! ### SET LINK (O47) -/

/-- A minute of the day lies in the window when it is fewer minutes past the start than the end is (R162). -/
theorem inWindow_iff {a b m : Nat} (ha : a ≤ 1439) (hb : b ≤ 1439) (hm : m ≤ 1439) :
    inWindow a b m = true ↔ ∃ k, k < (b + 1440 - a) % 1440 ∧ m = (a + k) % 1440 := by
  have offset : (∃ k, k < (b + 1440 - a) % 1440 ∧ m = (a + k) % 1440) ↔ (m + 1440 - a) % 1440 < (b + 1440 - a) % 1440 := by
    constructor
    · rintro ⟨k, lt, e⟩
      omega
    · intro lt
      exact ⟨_, lt, by omega⟩
  rw [offset, inWindow]
  split
  · simp; omega
  · split
    · simp; omega
    · simp; omega

theorem systemBad_iff (y1 y0 : Byte) : systemBad (y1.toNat * 256 + y0.toNat) = true ↔
    9 < y1.toNat / 16 ∨ 9 < y1.toNat % 16 ∨ 9 < y0.toNat / 16 ∨ 9 < y0.toNat % 16 := by
  have h1 := y1.isLt
  have h0 := y0.isLt
  simp only [systemBad, List.any_cons, List.any_nil, Bool.or_false, Bool.or_eq_true, decide_eq_true_eq]
  omega

theorem storedRetry_eq (r : Byte) :
    min (max r.toNat 1) 120 = if r = 0x00#8 then 1 else if 120 < r.toNat then 120 else r.toNat := by
  have zero : r = 0x00#8 ↔ r.toNat = 0 := by rw [← BitVec.toNat_inj]; rfl
  simp only [zero]
  split
  · omega
  · split <;> omega

theorem system_eq (y1 y0 : Byte) : BitVec.ofNat 16 (y1.toNat * 256 + y0.toNat) = y1 ++ y0 := by
  apply BitVec.eq_of_toNat_eq
  have h1 := y1.isLt
  have h0 := y0.isLt
  rw [BitVec.toNat_append, Nat.shiftLeft_eq, ← Nat.shiftLeft_eq, ← Nat.shiftLeft_add_eq_or_of_lt h0, Nat.shiftLeft_eq,
    BitVec.toNat_ofNat]
  omega

/-- Settles O47: the checks of the parameters, and the window judged afresh. -/
theorem setLinkRejudgesTheWindow : Obligations.SetLinkRejudgesTheWindow := by
  unfold Obligations.SetLinkRejudgesTheWindow
  refine ⟨fun p a y1 y0 w1 w0 e1 e0 r s h staff => ?_, fun a b m ha hb hm => inWindow_iff ha hb hm⟩
  intro start stop nibbleAbove9 bad inRun
  have system : numAt [a, y1, y0, w1, w0, e1, e0, r] 1 = y1.toNat * 256 + y0.toNat := numAt_pair ..
  have starts : numAt [a, y1, y0, w1, w0, e1, e0, r] 3 = start := numAt_pair ..
  have stops : numAt [a, y1, y0, w1, w0, e1, e0, r] 5 = stop := numAt_pair ..
  have checks : ((byteAt [a, y1, y0, w1, w0, e1, e0, r] 0).toNat = 0 ∨ (byteAt [a, y1, y0, w1, w0, e1, e0, r] 0).toNat = 255 ∨
      systemBad (numAt [a, y1, y0, w1, w0, e1, e0, r] 1) = true ∨ 1439 < numAt [a, y1, y0, w1, w0, e1, e0, r] 3 ∨
      1439 < numAt [a, y1, y0, w1, w0, e1, e0, r] 5) ↔ bad := by
    rw [system, starts, stops, systemBad_iff]
    show (a.toNat = (0x00#8 : Byte).toNat ∨ a.toNat = (0xFF#8 : Byte).toNat ∨ _) ↔ _
    rw [BitVec.toNat_inj, BitVec.toNat_inj]
  have runs : s.link.run.inRun = true ↔ inRun := by rw [inRun_iff, not_or]
  refine ⟨fun out => ?bad, fun ok busy => ?busy, fun ok free => ?stored⟩
  case bad =>
    have rule : setLink p [a, y1, y0, w1, w0, e1, e0, r] s = refuse .badParameter s := if_pos (checks.mpr out)
    rw [h.answers setLink (.inr staff) rule]
    rfl
  case busy =>
    have rule : setLink p [a, y1, y0, w1, w0, e1, e0, r] s = refuse .busy s :=
      (if_neg (mt checks.mp ok)).trans (if_pos (runs.mpr busy))
    rw [h.answers setLink (.inr staff) rule]
    rfl
  case stored =>
    intro cfg isOpen u
    have settings : linkSettings [a, y1, y0, w1, w0, e1, e0, r] s.config = cfg := by
      unfold linkSettings
      rw [system, starts, stops, system_eq, show byteAt [a, y1, y0, w1, w0, e1, e0, r] 7 = r from rfl, storedRetry_eq]
      rfl
    have rule : setLink p [a, y1, y0, w1, w0, e1, e0, r] s = done [] (rejudgeMode (rejudgeLink (s.withConfig cfg))) := by
      rw [setLink, if_neg (mt checks.mp ok), if_neg (mt runs.mp free), settings]
      rfl
    have linked : { rejudgeLink (s.withConfig cfg) with modeWindow := isOpen } = u :=
      congrArg (fun l : Link => { s.withConfig cfg with modeWindow := isOpen, link := l }) (if_congr and_comm rfl rfl)
    have judged : rejudgeMode (rejudgeLink (s.withConfig cfg)) =
        if s.modeHold then { rejudgeLink (s.withConfig cfg) with modeWindow := isOpen }
        else changeMode (if isOpen then .night else .day) { rejudgeLink (s.withConfig cfg) with modeWindow := isOpen } := rfl
    rw [h.answers setLink (.inr staff) rule, deliver_done, judged, linked]

end Sys2Proof.Machine
end

section
/-! PROOF. The clock (O37) and the calendar settings (O39). -/

namespace Sys2Proof.Machine

/-! ### The instant handed on (R67, R153, R162, R188) -/

/-- What mode control leaves of an instant handed on (R188). -/
def State.modeJudged (s : State) : State :=
  if s.windowJudged = s.modeWindow then s
  else changeMode (scheduledMode s.windowJudged) { s with modeWindow := s.windowJudged, modeHold := false }

theorem judgeMode_eq (s : State) : judgeMode s = s.modeJudged := rfl

theorem modeJudged_frame (s : State) : s.modeJudged.link = s.link ∧ s.modeJudged.windowJudged = s.windowJudged := by
  rw [← judgeMode_eq, judgeMode_frame]
  exact ⟨rfl, rfl⟩

/-- An instant handed on, by the flags of mode control and of the link. -/
theorem handedOn_eq (s : State) : s.handedOn =
    if s.windowJudged = s.link.windowOpen then s.modeJudged
    else if s.windowJudged = true ∧ s.link.run = .idle then (onLink (fun l => { l with windowOpen := s.windowJudged }) s.modeJudged).begun
    else if s.windowJudged = false ∧ s.link.run = .armed then
      onLink (fun l => { l with windowOpen := s.windowJudged, run := .idle, retry := none }) s.modeJudged
    else onLink (fun l => { l with windowOpen := s.windowJudged }) s.modeJudged := rfl

theorem handOn_eq (s : State) : handOn s = s.handedOn := by
  obtain ⟨link, judged⟩ := modeJudged_frame s
  rw [handedOn_eq, handOn, judgeMode_eq, judgeLink]
  simp only [judged, link]
  by_cases stands : s.windowJudged = s.link.windowOpen
  · rw [if_pos stands, if_pos stands]
  · rw [if_neg stands, if_neg stands]
    cases isOpen : s.windowJudged with
    | true =>
      rw [if_pos rfl]
      by_cases idle : s.link.run = .idle
      · rw [if_pos idle, if_pos ⟨rfl, idle⟩, beginRun_eq]
      · rw [if_neg idle, if_neg fun k => idle k.2, if_neg fun k => by cases k.1]
    | false =>
      rw [if_neg (show ¬ false = true by simp), if_neg (show ¬ (false = true ∧ s.link.run = .idle) by simp)]
      by_cases armed : s.link.run = .armed
      · rw [if_pos armed, if_pos ⟨rfl, armed⟩]
        rfl
      · rw [if_neg armed, if_neg fun k => armed k.2]

theorem callPurge_eq (s : State) : callPurge s = { s with
    rm := { s.rm with
      closures := if s.pfail = false then s.rm.closures.filter (fun c => decide (s.clock.day - c ≤ 120)) else s.rm.closures },
    purgeWaits := s.purgeWaits || s.pfail } := by
  unfold callPurge
  cases pfail : s.pfail with
  | true => simp only [if_true, Bool.or_true, reduceCtorEq, if_false]
  | false =>
    simp only [Bool.false_eq_true, if_false, if_true, Bool.or_false, purge]
    rw [← pfail]
    rfl

theorem setClockTo_eq (day minute : Nat) (s : State) : setClockTo day minute s = s.clockSetTo day minute := by
  unfold setClockTo State.clockSetTo
  rw [handOn_eq]
  by_cases same : day = s.clock.day
  · simp [same]
  · simp only [if_neg same, callPurge_eq]
    simp [same]

theorem clock_holds_iff (c : Clock) : c.holds = true ↔ 65535 ≤ c.day ∧ 1439 ≤ c.minute := by
  unfold Clock.holds Config.lastDay
  rw [Bool.and_eq_true, decide_eq_true_eq, decide_eq_true_eq]

theorem countRetry_eq (s : State) : countRetry s =
    { s with link := if s.link.run = .armed then { s.link with retry := s.link.retry.map (· - 1) } else s.link } := by
  unfold countRetry
  split <;> rfl

theorem handedOn_modeWindow {s : State} (stands : s.windowJudged = s.modeWindow) : s.modeJudged = s := if_pos stands

theorem handedOn_link (s : State) : s.handedOn.link =
    if s.windowJudged = s.link.windowOpen then s.link
    else if s.windowJudged = true ∧ s.link.run = .idle then { s.begun.link with windowOpen := s.windowJudged }
    else if s.windowJudged = false ∧ s.link.run = .armed then { s.link with windowOpen := s.windowJudged, run := .idle, retry := none }
    else { s.link with windowOpen := s.windowJudged } := by
  obtain ⟨link, _⟩ := modeJudged_frame s
  have rm : s.modeJudged.rm = s.rm := by rw [← judgeMode_eq, judgeMode_frame]
  rw [handedOn_eq]
  split
  · exact link
  · split
    · unfold State.begun
      simp only [onLink_link, onLink_rm, link, rm]
    · split
      · rw [onLink_link, link]
      · rw [onLink_link, link]

/-- Settles O37: SET CLOCK, the new minute, and the instant handed on. -/
theorem clockIsSetAndAdvances : Obligations.ClockIsSetAndAdvances := by
  unfold Obligations.ClockIsSetAndAdvances
  refine ⟨fun p d1 d0 m1 m0 s h staff => ?set, fun s => ⟨fun day minute => ?holds, fun free => ?advances⟩, fun s => ?handed⟩
  case set =>
    intro day minute
    have days : numAt [d1, d0, m1, m0] 0 = day := numAt_pair ..
    have minutes : numAt [d1, d0, m1, m0] 2 = minute := numAt_pair ..
    refine ⟨fun out => ?_, fun ok => ?_⟩
    · have rule : setClock p [d1, d0, m1, m0] s = refuse .badParameter s := if_pos (by rw [minutes]; exact out)
      rw [h.answers setClock (.inr staff) rule]
      rfl
    · have rule : setClock p [d1, d0, m1, m0] s = done [] (s.clockSetTo day minute) := by
        rw [setClock, minutes, days, if_neg (by omega), setClockTo_eq]
      rw [h.answers setClock (.inr staff) rule, deliver_done]
  case holds =>
    have exec_ : exec .newMinute s = .next (onNewMinute s) := rfl
    rw [exec_, onNewMinute, if_pos ((clock_holds_iff _).mpr ⟨day, minute⟩)]
  case advances =>
    intro advanced
    have exec_ : exec .newMinute s = .next (onNewMinute s) := rfl
    have moves : onNewMinute s =
        if s.running then handOn (countRetry (if s.clock.minute < 1439 then { s with clock := advanced }
          else callPurge { s with clock := advanced })) else { s with clock := advanced } := by
      rw [onNewMinute, if_neg (by rw [clock_holds_iff]; omega)]
      rfl
    refine ⟨fun stopped => ?_, fun run => ?_⟩
    · rw [exec_, moves, if_neg (by simp [stopped])]
    · rw [exec_, moves, if_pos run, handOn_eq, countRetry_eq]
      by_cases within : s.clock.minute < 1439
      · simp only [if_pos within, show ¬ 1439 ≤ s.clock.minute by omega, false_and, if_false, decide_false, Bool.false_and, Bool.or_false]
      · simp only [if_neg within, show 1439 ≤ s.clock.minute by omega, true_and, decide_true, Bool.true_and, callPurge_eq]
  case handed =>
    intro isOpen mode
    have judged : s.windowJudged = isOpen := rfl
    refine ⟨fun m l => ?_, fun m l => ?_, fun m stands => ?_, fun l opens idle => ?_, fun l closes armed => ?_, fun idle armed => ?_⟩
    · rw [handedOn_eq, if_pos (judged.trans l.symm), handedOn_modeWindow (judged.trans m.symm)]
    · rw [handedOn_eq, if_pos (judged.trans l.symm), State.modeJudged, if_neg (by rw [judged]; exact fun e => m e.symm)]
      rfl
    · have moved : s.modeJudged = { s with modeWindow := isOpen, modeHold := false } := by
        rw [State.modeJudged, if_neg (by rw [judged]; exact fun e => m e.symm)]
        exact changeMode_same stands
      rw [handedOn_eq, moved]
      split
      · rfl
      · split
        · rfl
        · split <;> rfl
    · rw [handedOn_link, judged, if_neg (by rw [l, opens]; simp), if_pos ⟨opens, idle⟩, opens]
    · rw [handedOn_link, judged, if_neg (by rw [l, closes]; simp), if_neg (by rw [closes]; simp), if_pos ⟨closes, armed⟩, closes]
    · rw [handedOn_link, if_neg fun k : _ ∧ _ => idle k.2, if_neg fun k : _ ∧ _ => armed k.2]
      split
      · rename_i stands
        rw [← judged, stands]
      · rfl

/-! ### The calendar settings and the closures (O39) -/

theorem weekdayOfByte_of {w : Byte} (h : w.toNat < 7) : weekdayOfByte w = some ⟨w.toNat, h⟩ := dif_pos h
theorem weekdayOfByte_none {w : Byte} (h : ¬ w.toNat < 7) : weekdayOfByte w = none := dif_neg h
theorem itemClassOfByte_of {b : Byte} (h : b.toNat < 16) : itemClassOfByte b = some ⟨b.toNat, h⟩ := dif_pos h
theorem itemClassOfByte_none {b : Byte} (h : ¬ b.toNat < 16) : itemClassOfByte b = none := dif_neg h
theorem borrowerClassOfByte_of {b : Byte} (h : b.toNat < 8) : borrowerClassOfByte b = some ⟨b.toNat, h⟩ := dif_pos h
theorem borrowerClassOfByte_none {b : Byte} (h : ¬ b.toNat < 8) : borrowerClassOfByte b = none := dif_neg h

theorem classKindOfByte_code (k : ClassKind) : classKindOfByte (kindCode k) = some k := by cases k <;> rfl

theorem classKindOfByte_none {b : Byte} (h : 1 < b.toNat) : classKindOfByte b = none := by
  have zero : b ≠ 0x00#8 := fun e => by rw [e] at h; simp at h
  have one : b ≠ 0x01#8 := fun e => by rw [e] at h; simp at h
  rw [classKindOfByte, if_neg zero, if_neg one]

theorem setHours_eq (p : Port) (w o1 o0 c1 c0 : Byte) (s : State) : setHours p [w, o1, o0, c1, c0] s =
    match weekdayOfByte w with
    | none => refuse .badParameter s
    | some d =>
      if 1440 < c1.toNat * 256 + c0.toNat ∨ c1.toNat * 256 + c0.toNat < o1.toNat * 256 + o0.toNat then refuse .badParameter s
      else done [] (s.withConfig { s.config with
        hours := s.config.hours.set d ⟨o1.toNat * 256 + o0.toNat, c1.toNat * 256 + c0.toNat⟩ }) := by
  have opens : numAt [w, o1, o0, c1, c0] 1 = o1.toNat * 256 + o0.toNat := numAt_pair ..
  have closes : numAt [w, o1, o0, c1, c0] 3 = c1.toNat * 256 + c0.toNat := numAt_pair ..
  rw [setHours, opens, closes]
  rfl

theorem setPeriod_eq (p : Port) (ic bc n : Byte) (s : State) : setPeriod p [ic, bc, n] s =
    match itemClassOfByte ic, borrowerClassOfByte bc with
    | some i, some b => done [] (s.withConfig { s.config with periods := s.config.periods.set i ((s.config.periods.get i).set b
        (if (s.config.itemClasses.get i).kind = .hour then min n.toNat 72 else n.toNat)) })
    | _, _ => refuse .badParameter s := rfl

theorem setItemClass_eq (p : Port) (ic k g r1 r0 c1 c0 n : Byte) (s : State) : setItemClass p [ic, k, g, r1, r0, c1, c0, n] s =
    match itemClassOfByte ic, classKindOfByte k with
    | some i, some kind => done [] (s.withConfig { s.config with
        itemClasses := s.config.itemClasses.set i ⟨kind, min g.toNat 15, min (r1.toNat * 256 + r0.toNat) 2000,
          min (c1.toNat * 256 + c0.toNat) 65000, min n.toNat 15⟩,
        periods := s.config.periods.set i
          (if (s.config.itemClasses.get i).kind = .day ∧ kind = .hour then (s.config.periods.get i).map (fun x => min x 72)
            else s.config.periods.get i) })
    | _, _ => refuse .badParameter s := by
  have rate : numAt [ic, k, g, r1, r0, c1, c0, n] 3 = r1.toNat * 256 + r0.toNat := numAt_pair ..
  have cap : numAt [ic, k, g, r1, r0, c1, c0, n] 5 = c1.toNat * 256 + c0.toNat := numAt_pair ..
  unfold setItemClass storedItemClass
  rw [rate, cap]
  rfl

theorem setBorrowerClass_eq (p : Port) (bc l t1 t0 : Byte) (s : State) : setBorrowerClass p [bc, l, t1, t0] s =
    match borrowerClassOfByte bc with
    | none => refuse .badParameter s
    | some b => done [] (s.withConfig { s.config with
        borrowerClasses := s.config.borrowerClasses.set b ⟨l.toNat,
          if t1.toNat * 256 + t0.toNat = 65535 then none else some (t1.toNat * 256 + t0.toNat)⟩ }) := by
  have term : numAt [bc, l, t1, t0] 2 = t1.toNat * 256 + t0.toNat := numAt_pair ..
  rw [setBorrowerClass, term]
  rfl

theorem addClosure_eq (p : Port) (d1 d0 : Byte) (s : State) : addClosure p [d1, d0] s =
    if 120 < s.clock.day - (d1.toNat * 256 + d0.toNat) then refuse .badParameter s
    else ifPowerGood s (if d1.toNat * 256 + d0.toNat ∈ s.rm.closures then refuse .alreadyExists s
      else if 64 ≤ s.rm.closures.length then refuse .tableFull s
      else done [] (insertClosure (d1.toNat * 256 + d0.toNat) s)) := by
  have day : numAt [d1, d0] 0 = d1.toNat * 256 + d0.toNat := numAt_pair ..
  unfold addClosure State.isStale
  rw [day]
  simp only [decide_eq_true_eq, List.contains_iff_mem]
  rfl

theorem removeClosure_eq (p : Port) (d1 d0 : Byte) (s : State) : removeClosure p [d1, d0] s =
    ifPowerGood s (if d1.toNat * 256 + d0.toNat ∈ s.rm.closures then done [] (dropClosure (d1.toNat * 256 + d0.toNat) s)
      else refuse .notFound s) := by
  have day : numAt [d1, d0] 0 = d1.toNat * 256 + d0.toNat := numAt_pair ..
  unfold removeClosure
  rw [day]
  simp only [List.contains_iff_mem]

/-- Settles O39: each setting by its selector, and the closures by their checks in order. -/
theorem calendarSettingsAndClosures : Obligations.CalendarSettingsAndClosures := by
  unfold Obligations.CalendarSettingsAndClosures
  refine ⟨fun p s staff => ⟨fun w o1 o0 c1 c0 h => ?hours, fun ic bc n h => ?period, fun ic k g r1 r0 c1 c0 n h => ?item,
    fun bc l t1 t0 h => ?borrower, fun a2 a1 a0 h => ?threshold⟩, fun p d1 d0 s staff => ?closures⟩
  case hours =>
    intro openAt closeAt
    refine ⟨fun out => ?_, fun day ok order => ?_⟩
    · have rule : setHours p [w, o1, o0, c1, c0] s = refuse .badParameter s := by
        rw [setHours_eq]
        by_cases day : w.toNat < 7
        · rw [weekdayOfByte_of day]
          exact if_pos (out.resolve_left (by omega))
        · rw [weekdayOfByte_none day]
      rw [h.answers setHours (.inr staff) rule]
      rfl
    · rw [h.answers setHours (.inr staff) (setHours_eq ..), weekdayOfByte_of day]
      dsimp only
      rw [if_neg (by omega)]
      rfl
  case period =>
    refine ⟨fun out => ?_, fun item borrower => ?_⟩
    · have rule : setPeriod p [ic, bc, n] s = refuse .badParameter s := by
        rw [setPeriod_eq]
        by_cases item : ic.toNat < 16
        · rw [borrowerClassOfByte_none (by omega)]
          split <;> simp_all
        · rw [itemClassOfByte_none item]
      rw [h.answers setPeriod (.inr staff) rule]
      rfl
    · rw [h.answers setPeriod (.inr staff) (setPeriod_eq ..), itemClassOfByte_of item, borrowerClassOfByte_of borrower]
      rfl
  case item =>
    refine ⟨fun out => ?_, fun item kind code => ?_⟩
    · have rule : setItemClass p [ic, k, g, r1, r0, c1, c0, n] s = refuse .badParameter s := by
        rw [setItemClass_eq]
        by_cases item : ic.toNat < 16
        · rw [classKindOfByte_none (by omega)]
          split <;> simp_all
        · rw [itemClassOfByte_none item]
      rw [h.answers setItemClass (.inr staff) rule]
      rfl
    · rw [h.answers setItemClass (.inr staff) (setItemClass_eq ..), itemClassOfByte_of item, code, classKindOfByte_code]
      rfl
  case borrower =>
    refine ⟨fun out => ?_, fun borrower => ?_⟩
    · have rule : setBorrowerClass p [bc, l, t1, t0] s = refuse .badParameter s := by
        rw [setBorrowerClass_eq, borrowerClassOfByte_none (by omega)]
      rw [h.answers setBorrowerClass (.inr staff) rule]
      rfl
    · rw [h.answers setBorrowerClass (.inr staff) (setBorrowerClass_eq ..), borrowerClassOfByte_of borrower]
      rfl
  case threshold =>
    have amount : number (slice [a2, a1, a0] 0 3) = a2.toNat * 65536 + a1.toNat * 256 + a0.toNat := number_slice_cons3 ..
    have rule : setThreshold p [a2, a1, a0] s = done [] (s.withConfig { s.config with
        threshold := min (a2.toNat * 65536 + a1.toNat * 256 + a0.toNat) 999999 }) := by
      rw [setThreshold, amount]
      rfl
    rw [h.answers setThreshold (.inr staff) rule]
    rfl
  case closures =>
    intro day
    refine ⟨fun h => ?add, fun h => ?remove⟩
    case add =>
      have answered := h.answers (i := .addClosure p) addClosure (.inr staff) (addClosure_eq ..)
      refine ⟨fun stale => ?_, fun fresh => ⟨fun high => ?_, fun low => ⟨fun listed => ?_, fun new full => ?_, fun new room => ?_⟩⟩⟩
      · rw [answered, if_pos (by omega)]; rfl
      all_goals rw [answered, if_neg (by omega)]
      · rw [ifPowerGood_high high]; rfl
      · rw [ifPowerGood_low low, if_pos listed]; rfl
      · rw [ifPowerGood_low low, if_neg new, if_pos full]; rfl
      · rw [ifPowerGood_low low, if_neg new, if_neg (Nat.not_le.mpr room)]
        exact ⟨insertBy id day s.rm.closures, rfl, length_insertBy .., fun x => mem_insertBy id day x s.rm.closures,
          fun rising => insertBy_rising id rising fun y m e => new ((show y = day from e) ▸ m)⟩
    case remove =>
      have answered := h.answers (i := .removeClosure p) removeClosure (.inr staff) (removeClosure_eq ..)
      refine ⟨fun high => ?_, fun low => ⟨fun absent => ?_, fun listed => ?_⟩⟩
      · rw [answered, ifPowerGood_high high]; rfl
      · rw [answered, ifPowerGood_low low, if_neg absent]; rfl
      · rw [answered, ifPowerGood_low low, if_pos listed]; rfl

end Sys2Proof.Machine
end

section
/-! PROOF. Frames received (O51) and the answers of the central office (O52 to O54). -/

namespace Sys2Proof.Machine

/-! ### The bytes of a frame (O51) -/

/-- The bytes that the CRC covers (TABLE 8-2). -/
def coveredBytes (dest source kind : Byte) (seq : Nat) (payload : List Byte) : List Byte :=
  [dest, source, kind, byte (seq / 256), byte seq, byte payload.length] ++ payload

/-- The characters of a run with the header and payload of a frame, and any two bytes where its CRC stands. -/
def framedWith (dest source kind : Byte) (seq : Nat) (payload : List Byte) (high low : Byte) : List Byte :=
  0xC3#8 :: 0x3C#8 :: (coveredBytes dest source kind seq payload ++ [high, low])

theorem frameBytes_eq (dest source kind : Byte) (seq : Nat) (payload : List Byte) :
    frameBytes dest source kind seq payload = framedWith dest source kind seq payload
      (byte ((crc16 (coveredBytes dest source kind seq payload)).toNat / 256))
      (byte (crc16 (coveredBytes dest source kind seq payload)).toNat) := rfl

/-- A run with the header and payload of a frame is that frame if its last two bytes are the CRC, and none if they are not (R147). -/
theorem goodFrame_framedWith (dest source kind : Byte) {seq : Nat} {payload : List Byte} (hseq : seq < 65536)
    (short : payload.length ≤ 240) (high low : Byte) :
    goodFrame (framedWith dest source kind seq payload high low) =
      if high.toNat * 256 + low.toNat = (crc16 (coveredBytes dest source kind seq payload)).toNat then
        some ⟨dest, source, kind, seq, payload⟩ else none := by
  have len : (byteAt (framedWith dest source kind seq payload high low) 7).toNat = payload.length := by
    show (payload.length) % 256 = _
    omega
  have length : (framedWith dest source kind seq payload high low).length = 10 + payload.length := by
    simp [framedWith, coveredBytes]; omega
  have covered : slice (framedWith dest source kind seq payload high low) 2 (6 + payload.length) =
      coveredBytes dest source kind seq payload := by
    show (coveredBytes dest source kind seq payload ++ [high, low]).take _ = _
    exact List.take_left' (by simp [coveredBytes]; omega)
  have body : slice (framedWith dest source kind seq payload high low) 8 payload.length = payload := by
    show (payload ++ [high, low]).take _ = _
    exact List.take_left' rfl
  have crc : numAt (framedWith dest source kind seq payload high low) (8 + payload.length) = high.toNat * 256 + low.toNat := by
    have tail : (framedWith dest source kind seq payload high low).drop (8 + payload.length) = [high, low] := by
      rw [← List.drop_drop]
      show (payload ++ [high, low]).drop _ = _
      exact List.drop_left' rfl
    rw [numAt, slice, tail]
    exact numAt_pair high low []
  have number : numAt (framedWith dest source kind seq payload high low) 5 = seq := by
    have pair : numAt (framedWith dest source kind seq payload high low) 5 = (byte (seq / 256)).toNat * 256 + (byte seq).toNat :=
      numAt_pair ..
    rw [pair]
    simp only [byte, BitVec.toNat_ofNat]
    omega
  rw [goodFrame, len]
  rw [covered, body, crc, number, length]
  exact if_congr ⟨fun h => h.2.2.2.2, fun h => ⟨rfl, rfl, short, rfl, h⟩⟩ rfl rfl

theorem crc_bytes (w : Word16) : (byte (w.toNat / 256)).toNat * 256 + (byte w.toNat).toNat = w.toNat := by
  have := w.isLt
  simp only [byte, BitVec.toNat_ofNat]
  omega

theorem goodFrame_frameBytes (dest source kind : Byte) {seq : Nat} {payload : List Byte} (hseq : seq < 65536)
    (short : payload.length ≤ 240) :
    goodFrame (frameBytes dest source kind seq payload) = some ⟨dest, source, kind, seq, payload⟩ := by
  rw [frameBytes_eq, goodFrame_framedWith dest source kind hseq short, if_pos (crc_bytes _)]

/-- Settles O51: the frame is received for its own CRC, and for no other last byte. -/
theorem frameBytesAreReceivedWhole : Obligations.FrameBytesAreReceivedWhole := by
  unfold Obligations.FrameBytesAreReceivedWhole
  intro dest source kind seq payload hseq short
  refine ⟨goodFrame_frameBytes dest source kind hseq short, fun flip other => ?_⟩
  have split (high low : Byte) : framedWith dest source kind seq payload high low =
      (0xC3#8 :: 0x3C#8 :: (coveredBytes dest source kind seq payload ++ [high])) ++ [low] := by
    simp [framedWith]
  rw [frameBytes_eq, split, List.dropLast_concat, List.getLast?_concat, Option.getD_some, ← split,
    goodFrame_framedWith dest source kind hseq short]
  have crc := crc_bytes (crc16 (coveredBytes dest source kind seq payload))
  generalize crc16 (coveredBytes dest source kind seq payload) = w at crc ⊢
  rw [if_neg]
  intro same
  have low : byte w.toNat ^^^ flip = byte w.toNat := BitVec.eq_of_toNat_eq (Nat.add_left_cancel (same.trans crc.symm))
  exact other (by simpa using low)

/-! ### Frames heard in a run (R148) -/

/-- A frame heard while no gap is sought changes nothing by its passing. -/
theorem heardActivity_noGap {f : List Byte} {s : State} (h : ∀ m, s.link.seek ≠ .gap m) : heardActivity f s = s := by
  have still : s.link.activity = s.link := by
    unfold Link.activity
    cases seek : s.link.seek with
    | gap m => exact absurd seek (h m)
    | off => rfl
    | backoff k => rfl
  unfold heardActivity
  split
  · rw [onLink, still]
  · rfl

theorem hears_awaiting {s : State} (run : s.running = true) (jam : s.link.jam = none)
    (awaits : s.link.run = .awaitAck ∨ s.link.run = .awaitUpdate) : s.hears = true := by
  rcases awaits with a | a <;> simp [State.hears, run, jam, a]

/-- A frame from the central office to the desk's own address. -/
theorem fromCentral_own (s : State) (kind : Byte) (seq : Nat) (payload : List Byte) :
    s.fromCentral ⟨BitVec.ofNat 8 s.config.address, 0x00#8, kind, seq, payload⟩ = true := by
  simp [State.fromCentral, byte]

theorem farApart_iff (d m d' m' : Nat) :
    farApart d m d' m' = true ↔ d' * 1440 + m' + 1 < d * 1440 + m ∨ d * 1440 + m + 1 < d' * 1440 + m' := by
  simp only [farApart, Bool.or_eq_true, decide_eq_true_eq]
  exact or_comm

theorem runDone_eq (s : State) : runDone s =
    { postStaff ⟨.uploadDone, none, none, some (.counts s.link.confirmed s.link.applied), none⟩ s with
      link := { s.link with run := .idle, outcome := .done, frame := .none, seek := .off, replyTimer := false, reply := none } } := by
  unfold runDone onLink
  rw [(postStaff_same _ s).eq]

/-- Settles O53: BUSY by its acceptance, END by whether the central time is taken. -/
theorem busyAndEndFrames : Obligations.BusyAndEndFrames := by
  unfold Obligations.BusyAndEndFrames
  intro seq s run jam hseq address noGap own
  refine ⟨fun n awaits data => ?busy, fun day minute hday hminute awaits => ?ending⟩
  case busy =>
    have accepted : s.acceptsBusy (frameBytes own 0x00#8 0x03#8 seq []) = true := by
      rw [State.acceptsBusy, goodFrame_frameBytes own _ _ hseq (by simp), data]
      exact decide_eq_true ⟨hears_awaiting run jam (.inl awaits), awaits, fromCentral_own .., rfl, rfl, rfl⟩
    have exec_ : exec (.busyFrame (frameBytes own 0x00#8 0x03#8 seq [])) s = .next (onBusyFrame (frameBytes own 0x00#8 0x03#8 seq []) s) := rfl
    rw [exec_, onBusyFrame, heardActivity_noGap noGap]
    exact congrArg Host.Outcome.next ((if_pos accepted).trans (runFailed_eq (by simp) s))
  case ending =>
    intro now there taken e
    have days : numAt (be16 day ++ be16 minute) 0 = day := numAt_be16 hday _
    have minutes : numAt (be16 day ++ be16 minute) 2 = minute := numAt_be16 (n := minute) hminute []
    have accepted : s.acceptedEnd (frameBytes own 0x00#8 0x06#8 seq (be16 day ++ be16 minute)) = some (day, minute) := by
      rw [State.acceptedEnd, goodFrame_frameBytes own _ _ hseq (by simp [be16])]
      dsimp only
      rw [if_pos ⟨hears_awaiting run jam (.inr awaits), awaits, fromCentral_own .., rfl, rfl⟩, days, minutes]
    have exec_ : exec (.endFrame (frameBytes own 0x00#8 0x06#8 seq (be16 day ++ be16 minute))) s =
        .next (runDone (takeCentralTime day minute s)) := by
      have row : exec (.endFrame (frameBytes own 0x00#8 0x06#8 seq (be16 day ++ be16 minute))) s =
        .next (onEndFrame (frameBytes own 0x00#8 0x06#8 seq (be16 day ++ be16 minute)) s) := rfl
      rw [row, onEndFrame, heardActivity_noGap noGap, accepted]
    have takes : takeCentralTime day minute s = if taken then s.clockSetTo day minute else s := by
      unfold takeCentralTime
      simp only [Bool.or_eq_true, farApart_iff, setClockTo_eq]
      by_cases late : 1439 < minute
      · rw [if_pos late, if_neg fun k : taken => absurd k.1 (by omega)]
      · rw [if_neg late]
        exact if_congr ⟨fun k => ⟨by omega, k⟩, fun k => k.2⟩ rfl rfl
    have link : (takeCentralTime day minute s).link =
        { s.link with windowOpen := (takeCentralTime day minute s).link.windowOpen } := by
      rw [takes]
      split
      · rw [← setClockTo_eq]
        exact setClockTo_link (by rw [awaits]; rfl)
      · rfl
    refine ⟨takeCentralTime day minute s, fun k => ⟨takes.trans (if_pos k), link⟩, fun k => takes.trans (if_neg k), ?_⟩
    have confirmed : (takeCentralTime day minute s).link.confirmed = s.link.confirmed := by rw [link]
    have applied : (takeCentralTime day minute s).link.applied = s.link.applied := by rw [link]
    rw [exec_, runDone_eq, confirmed, applied]

end Sys2Proof.Machine
end

section
/-! PROOF. The updates of the central office: their entries read and applied (O54), and what each entry changes (O55). -/

namespace Sys2Proof.Machine

/-! ### The entries of a payload -/

theorem splitEntries_length {n : Nat} {bs : List Byte} (short : bs.length ≤ 18 * n) (whole : bs.length % 18 = 0) :
    (splitEntries n bs).length = bs.length / 18 := by
  induction n generalizing bs with
  | zero =>
    have empty : bs.length = 0 := by omega
    rw [empty]
    rfl
  | succ n ih =>
    unfold splitEntries
    cases empty : bs.isEmpty with
    | true =>
      rw [List.isEmpty_iff.mp empty]
      rfl
    | false =>
      have some_ : bs.length ≠ 0 := fun e => by rw [List.length_eq_zero_iff.mp e] at empty; cases empty
      have rest : (bs.drop 18).length = bs.length - 18 := List.length_drop
      rw [if_neg (by simp), List.length_cons, ih (by omega) (by omega), rest]
      omega

/-- Room for one entry more reads no more than there is. -/
theorem splitEntries_more {n : Nat} {bs : List Byte} (short : bs.length ≤ 18 * n) : splitEntries (n + 1) bs = splitEntries n bs := by
  induction n generalizing bs with
  | zero =>
    rw [List.length_eq_zero_iff.mp (by omega : bs.length = 0)]
    rfl
  | succ n ih =>
    have rest : (bs.drop 18).length = bs.length - 18 := List.length_drop
    rw [splitEntries, ih (by omega)]
    rfl

theorem entriesOf_length {payload : List Byte} (short : payload.length ≤ 234) (whole : payload.length % 18 = 0) :
    (entriesOf payload).length = payload.length / 18 := splitEntries_length short whole

theorem codeBytes_absent_iff (c : Code) : codeBytes c = List.replicate 7 0xFF#8 ↔ c = BitVec.allOnes 56 := by
  constructor
  · intro h
    have read := congrArg (fun bs => codeAt bs 0) h
    rw [codeAt_codeBytes_alone] at read
    rw [read]
    decide
  · intro h
    rw [h]
    decide

/-- The 18 bytes of an entry read back (R196, TABLE 11-4). -/
theorem readEntryBytes_entry (kind a b c : Byte) (key second : Code) :
    readEntryBytes (kind :: codeBytes key ++ codeBytes second ++ [a, b, c]) =
      ⟨kind, key, if codeBytes second = List.replicate 7 0xFF#8 then none else some second,
        a.toNat * 65536 + b.toNat * 256 + c.toNat⟩ := by
  have first : codeAt (kind :: codeBytes key ++ codeBytes second ++ [a, b, c]) 1 = key := by
    rw [List.append_assoc, List.cons_append, codeAt_cons, codeAt_codeBytes]
  have next : codeAt (kind :: codeBytes key ++ codeBytes second ++ [a, b, c]) 8 = second := codeAt_codeBytes second [a, b, c]
  have parameter : number (slice (kind :: codeBytes key ++ codeBytes second ++ [a, b, c]) 15 3) =
      a.toNat * 65536 + b.toNat * 256 + c.toNat := number_slice_cons3 a b c []
  unfold readEntryBytes codeIfPresent
  rw [first, next, parameter]
  simp only [codeBytes_absent_iff]
  rfl

theorem entriesOf_cons (kind a b c : Byte) (key second : Code) {more : List Byte} (short : more.length ≤ 216) :
    entriesOf (kind :: codeBytes key ++ codeBytes second ++ [a, b, c] ++ more) =
      ⟨kind, key, if codeBytes second = List.replicate 7 0xFF#8 then none else some second,
        a.toNat * 65536 + b.toNat * 256 + c.toNat⟩ :: entriesOf more := by
  have length : (kind :: codeBytes key ++ codeBytes second ++ [a, b, c]).length = 18 := rfl
  rw [entriesOf, splitEntries, if_neg (by simp), List.take_left' length, List.drop_left' length, readEntryBytes_entry,
    entriesOf, splitEntries_more (n := 12) (by omega)]

/-! ### The entries of a frame applied (O54) -/

theorem applyEntries_none {e : UpdateEntry} {s : State} (h : applyEntry e s = none) (es : List UpdateEntry) :
    applyEntries (e :: es) s = (s, 0) := by
  rw [applyEntries, h]

theorem applyEntries_some {e : UpdateEntry} {s t : State} (h : applyEntry e s = some t) (es : List UpdateEntry) :
    applyEntries (e :: es) s = ((applyEntries es t).1, (applyEntries es t).2 + 1) := by
  rw [applyEntries, h]

theorem applyEntries_same (es : List UpdateEntry) (s : State) : SameButRecords s (applyEntries es s).1 := by
  induction es generalizing s with
  | nil => exact .refl s
  | cons e es ih =>
    cases h : applyEntry e s with
    | none => rw [applyEntries_none h]; exact .refl s
    | some t => rw [applyEntries_some h]; exact (applyEntry_same h).trans (ih t)

/-- The state that a frame's entries leave: those of the applied ones, and UPDATE-REFUSED for the others. -/
theorem applyFrame_eq (r : RxFrame) (s : State) : applyFrame r s =
    ({ (applyEntries (entriesOf r.payload) s).1 with
        ports := if (entriesOf r.payload).length - (applyEntries (entriesOf r.payload) s).2 = 0 then
            (applyEntries (entriesOf r.payload) s).1.ports
          else (postStaff ⟨.updateRefused, none, none,
            some (.number ((entriesOf r.payload).length - (applyEntries (entriesOf r.payload) s).2)), none⟩
              (applyEntries (entriesOf r.payload) s).1).ports },
      (applyEntries (entriesOf r.payload) s).2) := by
  unfold applyFrame reportDiscarded
  dsimp only
  split
  · rfl
  · rw [(postStaff_same ..).eq]

theorem updateFits_of (dest source : Byte) (seq : Nat) {payload : List Byte} (whole : payload.length % 18 = 0)
    (short : payload.length ≤ 234) : updateFits ⟨dest, source, 0x05#8, seq, payload⟩ = true := by
  simp [updateFits, kindUpdate, whole, short]

theorem runUpdate_repeat {r : RxFrame} {s : State} {count : Nat} (last : s.rm.lastRun = some (r.seq, count)) :
    runUpdate r s = onLink (prepareReply r.seq count) s := by
  have known : s.rm.lastRun.filter (fun x => x.1 == r.seq) = some (r.seq, count) := by rw [last]; simp
  unfold runUpdate
  rw [known]

theorem runUpdate_new {r : RxFrame} {s : State} (new : ∀ count, s.rm.lastRun ≠ some (r.seq, count)) :
    runUpdate r s = onLink (fun l => prepareReply r.seq (applyFrame r s).2 { l with applied := min 65535 (l.applied + (applyFrame r s).2) })
      { (applyFrame r s).1 with rm := { (applyFrame r s).1.rm with lastRun := some (r.seq, (applyFrame r s).2) } } := by
  have none : s.rm.lastRun.filter (fun x => x.1 == r.seq) = none := by
    rw [Option.filter_eq_none_iff]
    intro x last same
    exact new x.2 (by rw [last, ← beq_iff_eq.mp same])
  unfold runUpdate
  rw [none]

/-- Settles O54: run updates, broadcasts, the first entry that cannot be applied, and the bytes of an entry. -/
theorem updatesAreAppliedOnce : Obligations.UpdatesAreAppliedOnce := by
  unfold Obligations.UpdatesAreAppliedOnce
  refine ⟨fun seq payload s run awaits jam hseq address whole short noGap => ?run,
    fun seq payload s hears hseq whole short noGap => ?broadcast, fun e es s => ⟨rfl, fun h => applyEntries_none h es,
      fun t h => applyEntries_some h es⟩, fun kind a b c key second more short => ⟨rfl, entriesOf_cons kind a b c key second short⟩⟩
  case run =>
    intro f applied discarded
    have accepted : s.acceptedUpdate f = some ⟨BitVec.ofNat 8 s.config.address, 0x00#8, 0x05#8, seq, payload⟩ := by
      rw [State.acceptedUpdate, goodFrame_frameBytes _ _ _ hseq (by omega), Option.filter_some,
        hears_awaiting run jam (.inr awaits), fromCentral_own, updateFits_of _ _ _ whole short, awaits]
      rfl
    have exec_ : exec (.updateFrame f) s = .next (if s.pfail then s else
        runUpdate ⟨BitVec.ofNat 8 s.config.address, 0x00#8, 0x05#8, seq, payload⟩ s) := by
      have row : exec (.updateFrame f) s = .next (onUpdateFrame f s) := rfl
      rw [row, onUpdateFrame, heardActivity_noGap noGap, accepted]
    have count : (entriesOf payload).length = payload.length / 18 := entriesOf_length short whole
    refine ⟨fun high => ?_, fun count low last => ?_, fun low new => ?_⟩
    · rw [exec_, if_pos high]
    · rw [exec_, if_neg (by simp [low]), runUpdate_repeat (by exact last)]
      rfl
    · have same := applyEntries_same (entriesOf payload) s
      rw [exec_, if_neg (by simp [low]), runUpdate_new (by exact new), applyFrame_eq, count]
      refine ⟨_, rfl, rfl, ?_, rfl, ?_⟩
      · dsimp only [onLink]
        rw [same]
        rfl
      · dsimp only [onLink]
        rw [same]
  case broadcast =>
    intro f applied discarded
    have accepted : s.acceptedBroadcast f = some ⟨0xFF#8, 0x00#8, 0x05#8, seq, payload⟩ := by
      rw [State.acceptedBroadcast, goodFrame_frameBytes _ _ _ hseq (by omega), Option.filter_some, hears,
        updateFits_of _ _ _ whole short]
      rfl
    have exec_ : exec (.broadcastUpdate f) s = .next (onBroadcastUpdate f s) := rfl
    have count : (entriesOf payload).length = payload.length / 18 := entriesOf_length short whole
    refine ⟨fun passed => ?_, fun low new => ?_⟩
    · rw [exec_, onBroadcastUpdate, heardActivity_noGap noGap, accepted]
      exact congrArg Host.Outcome.next (if_pos passed)
    · have same := applyEntries_same (entriesOf payload) s
      rw [exec_, onBroadcastUpdate, heardActivity_noGap noGap, accepted]
      dsimp only
      rw [if_neg (by simp [low, new]), applyFrame_eq, count]
      refine ⟨_, rfl, rfl, ?_, rfl, ?_⟩
      · dsimp only
        rw [same]
      · dsimp only
        rw [same]

end Sys2Proof.Machine
end

section
/-! PROOF. The ordered collections: what each of their operations leaves (R24, R45, R55, R70), and the update entries that use them
(O55). -/

namespace Sys2Proof.Machine

/-! ### The BLOCK LIST -/

theorem putBlock_known {b x : Block} {s : State} (known : s.blockOf b.borrower = some x) :
    putBlock b s = { s with rm := { s.rm with blocks := replaceBy Block.key b s.rm.blocks } } := by
  rw [putBlock, known]

theorem putBlock_new {b : Block} {s : State} (new : s.blockOf b.borrower = none) :
    putBlock b s = { moveSearches .blocks (insertedAt (rank Block.key b.key s.rm.blocks)) s with
      rm := { s.rm with blocks := insertBy Block.key b s.rm.blocks } } := by
  rw [putBlock, new]
  rfl

theorem putBlock_frame (b : Block) (s : State) : putBlock b s = { s with
    rm := { s.rm with blocks := (putBlock b s).rm.blocks },
    ports := (if s.blockOf b.borrower = none then moveSearches .blocks (insertedAt (rank Block.key b.key s.rm.blocks)) s
      else s).ports } := by
  cases h : s.blockOf b.borrower with
  | some x => rw [putBlock_known h, if_neg (by simp)]
  | none => rw [putBlock_new h, if_pos rfl]; rfl

theorem putBlock_blockOf (b : Block) (s : State) : (putBlock b s).blockOf b.borrower = some b := by
  cases h : s.blockOf b.borrower with
  | some x =>
    rw [putBlock_known h]
    exact lookupBy_replaceBy_same Block.key b (by rw [show lookupBy Block.key b.key s.rm.blocks = some x from h]; simp)
  | none =>
    rw [putBlock_new h]
    exact lookupBy_insertBy_same Block.key b h

theorem putBlock_blockOf_other {b : Block} {other : Code} (h : other ≠ b.borrower) (s : State) :
    (putBlock b s).blockOf other = s.blockOf other := by
  have key : other.toNat ≠ b.key := fun e => h (BitVec.eq_of_toNat_eq e)
  cases known : s.blockOf b.borrower with
  | some x => rw [putBlock_known known]; exact lookupBy_replaceBy_other Block.key b key _
  | none => rw [putBlock_new known]; exact lookupBy_insertBy_other Block.key b key _

theorem removeBlockOf_absent {b : Code} {s : State} (absent : s.blockOf b = none) : removeBlockOf b s = s := by
  rw [removeBlockOf, absent]

theorem removeBlockOf_listed {b : Code} {x : Block} {s : State} (listed : s.blockOf b = some x) :
    removeBlockOf b s = { moveSearches .blocks (removedAt (rank Block.key b.toNat s.rm.blocks)) s with
      rm := { s.rm with blocks := removeBy Block.key b.toNat s.rm.blocks } } := by
  rw [removeBlockOf, listed]
  rfl

theorem removeBlockOf_frame (b : Code) (s : State) : removeBlockOf b s = { s with
    rm := { s.rm with blocks := (removeBlockOf b s).rm.blocks },
    ports := (if s.blockOf b ≠ none then moveSearches .blocks (removedAt (rank Block.key b.toNat s.rm.blocks)) s else s).ports } := by
  cases h : s.blockOf b with
  | some x => rw [removeBlockOf_listed h, if_pos (by simp)]; rfl
  | none => rw [removeBlockOf_absent h, if_neg (by simp)]

theorem removeBlockOf_blockOf (b : Code) (s : State) : (removeBlockOf b s).blockOf b = none := by
  cases h : s.blockOf b with
  | some x => rw [removeBlockOf_listed h]; exact lookupBy_removeBy_same Block.key _ _
  | none => rw [removeBlockOf_absent h, h]

theorem removeBlockOf_blockOf_other {b other : Code} (h : other ≠ b) (s : State) :
    (removeBlockOf b s).blockOf other = s.blockOf other := by
  cases listed : s.blockOf b with
  | some x => rw [removeBlockOf_listed listed]; exact lookupBy_removeBy_other Block.key (fun e => h (BitVec.eq_of_toNat_eq e)) _
  | none => rw [removeBlockOf_absent listed]

/-! ### The ITEM FLAG TABLE -/

theorem putFlag_known {f x : FlagEntry} {s : State} (known : s.flagOf f.item = some x) :
    putFlag f s = { s with rm := { s.rm with flags := replaceBy FlagEntry.key f s.rm.flags } } := by
  rw [putFlag, known]

theorem putFlag_new {f : FlagEntry} {s : State} (new : s.flagOf f.item = none) :
    putFlag f s = { moveSearches .flags (insertedAt (rank FlagEntry.key f.key s.rm.flags)) s with
      rm := { s.rm with flags := insertBy FlagEntry.key f s.rm.flags } } := by
  rw [putFlag, new]
  rfl

theorem putFlag_frame (f : FlagEntry) (s : State) : putFlag f s = { s with
    rm := { s.rm with flags := (putFlag f s).rm.flags },
    ports := (if s.flagOf f.item = none then moveSearches .flags (insertedAt (rank FlagEntry.key f.key s.rm.flags)) s
      else s).ports } := by
  cases h : s.flagOf f.item with
  | some x => rw [putFlag_known h, if_neg (by simp)]
  | none => rw [putFlag_new h, if_pos rfl]; rfl

theorem putFlag_flagOf (f : FlagEntry) (s : State) : (putFlag f s).flagOf f.item = some f := by
  cases h : s.flagOf f.item with
  | some x =>
    rw [putFlag_known h]
    exact lookupBy_replaceBy_same FlagEntry.key f (by rw [show lookupBy FlagEntry.key f.key s.rm.flags = some x from h]; simp)
  | none =>
    rw [putFlag_new h]
    exact lookupBy_insertBy_same FlagEntry.key f h

theorem putFlag_flagOf_other {f : FlagEntry} {other : Code} (h : other ≠ f.item) (s : State) :
    (putFlag f s).flagOf other = s.flagOf other := by
  have key : other.toNat ≠ f.key := fun e => h (BitVec.eq_of_toNat_eq e)
  cases known : s.flagOf f.item with
  | some x => rw [putFlag_known known]; exact lookupBy_replaceBy_other FlagEntry.key f key _
  | none => rw [putFlag_new known]; exact lookupBy_insertBy_other FlagEntry.key f key _

theorem removeFlagOf_absent {item : Code} {s : State} (absent : s.flagOf item = none) : removeFlagOf item s = s := by
  rw [removeFlagOf, absent]

theorem removeFlagOf_flagged {item : Code} {x : FlagEntry} {s : State} (flagged : s.flagOf item = some x) :
    removeFlagOf item s = { moveSearches .flags (removedAt (rank FlagEntry.key item.toNat s.rm.flags)) s with
      rm := { s.rm with flags := removeBy FlagEntry.key item.toNat s.rm.flags } } := by
  rw [removeFlagOf, flagged]
  rfl

theorem removeFlagOf_frame (item : Code) (s : State) : removeFlagOf item s = { s with
    rm := { s.rm with flags := (removeFlagOf item s).rm.flags },
    ports := (if s.flagOf item ≠ none then moveSearches .flags (removedAt (rank FlagEntry.key item.toNat s.rm.flags)) s
      else s).ports } := by
  cases h : s.flagOf item with
  | some x => rw [removeFlagOf_flagged h, if_pos (by simp)]; rfl
  | none => rw [removeFlagOf_absent h, if_neg (by simp)]

theorem removeFlagOf_flagOf (item : Code) (s : State) : (removeFlagOf item s).flagOf item = none := by
  cases h : s.flagOf item with
  | some x => rw [removeFlagOf_flagged h]; exact lookupBy_removeBy_same FlagEntry.key _ _
  | none => rw [removeFlagOf_absent h, h]

theorem removeFlagOf_flagOf_other {item other : Code} (h : other ≠ item) (s : State) :
    (removeFlagOf item s).flagOf other = s.flagOf other := by
  cases flagged : s.flagOf item with
  | some x => rw [removeFlagOf_flagged flagged]; exact lookupBy_removeBy_other FlagEntry.key (fun e => h (BitVec.eq_of_toNat_eq e)) _
  | none => rw [removeFlagOf_absent flagged]

/-! ### The LOAN TABLE -/

theorem removeLoan_absent {item : Code} {s : State} (absent : s.loanOf item = none) : removeLoan item s = s := by
  rw [removeLoan, absent]

theorem removeLoan_lent {item : Code} {x : Loan} {s : State} (onLoan : s.loanOf item = some x) :
    removeLoan item s = { moveSearches .loans (removedAt (rank Loan.key item.toNat s.rm.loans)) s with
      rm := { s.rm with loans := removeBy Loan.key item.toNat s.rm.loans } } := by
  rw [removeLoan, onLoan]
  rfl

theorem removeLoan_frame (item : Code) (s : State) : removeLoan item s = { s with
    rm := { s.rm with loans := (removeLoan item s).rm.loans },
    ports := (if s.loanOf item ≠ none then moveSearches .loans (removedAt (rank Loan.key item.toNat s.rm.loans)) s
      else s).ports } := by
  cases h : s.loanOf item with
  | some x => rw [removeLoan_lent h, if_pos (by simp)]; rfl
  | none => rw [removeLoan_absent h, if_neg (by simp)]

theorem removeLoan_loanOf_other {item other : Code} (h : other ≠ item) (s : State) :
    (removeLoan item s).loanOf other = s.loanOf other := by
  cases onLoan : s.loanOf item with
  | some x => rw [removeLoan_lent onLoan]; exact lookupBy_removeBy_other Loan.key (fun e => h (BitVec.eq_of_toNat_eq e)) _
  | none => rw [removeLoan_absent onLoan]

/-! ### What an update entry does (O55) -/

theorem applyEntry_blockAdd {e : UpdateEntry} (h : e.kind = 0x01#8) (s : State) : applyEntry e s = applyBlockAdd e s := if_pos h

theorem applyEntry_blockRemove {e : UpdateEntry} (h : e.kind = 0x02#8) (s : State) : applyEntry e s = applyBlockRemove e s := by
  rw [applyEntry, h]; rfl
theorem applyEntry_flagSet {e : UpdateEntry} (h : e.kind = 0x03#8) (s : State) : applyEntry e s = applyFlagSet e s := by
  rw [applyEntry, h]; rfl
theorem applyEntry_flagClear {e : UpdateEntry} (h : e.kind = 0x04#8) (s : State) : applyEntry e s = applyFlagClear e s := by
  rw [applyEntry, h]; rfl
theorem applyEntry_loanClear {e : UpdateEntry} (h : e.kind = 0x05#8) (s : State) : applyEntry e s = applyLoanClear e s := by
  rw [applyEntry, h]; rfl
theorem applyEntry_closureAdd {e : UpdateEntry} (h : e.kind = 0x06#8) (s : State) : applyEntry e s = applyClosureAdd e s := by
  rw [applyEntry, h]; rfl
theorem applyEntry_closureRemove {e : UpdateEntry} (h : e.kind = 0x07#8) (s : State) : applyEntry e s = applyClosureRemove e s := by
  rw [applyEntry, h]; rfl

theorem applyEntry_unknown {e : UpdateEntry} (h : e.kind = 0x00#8 ∨ 7 < e.kind.toNat) (s : State) : applyEntry e s = none := by
  have other : ∀ k : Byte, 0 < k.toNat → k.toNat ≤ 7 → e.kind ≠ k := fun k pos le same => by
    rcases h with zero | above
    · rw [← same, zero] at pos; simp at pos
    · rw [same] at above; omega
  unfold applyEntry
  rw [if_neg (other _ (by decide) (by decide)), if_neg (other _ (by decide) (by decide)), if_neg (other _ (by decide) (by decide)),
    if_neg (other _ (by decide) (by decide)), if_neg (other _ (by decide) (by decide)), if_neg (other _ (by decide) (by decide)),
    if_neg (other _ (by decide) (by decide))]

theorem loanClear_eq (e : UpdateEntry) (s : State) : applyLoanClear e s =
    some (if ∃ l, s.loanOf e.key = some l ∧ e.second = some l.borrower then removeLoan e.key s else s) := by
  unfold applyLoanClear
  cases h : s.loanOf e.key with
  | none => simp
  | some l =>
    simp only [Option.some.injEq, exists_eq_left']
    exact if_congr eq_comm rfl rfl

/-- The one operation that an applied entry is, on the entry of its key or day. -/
inductive EntryActs (e : UpdateEntry) (s : State) : State → Prop
  | blockAdd (b : Block) : e.kind = 0x01#8 → b.borrower = e.key → EntryActs e s (putBlock b s)
  | blockRemove : e.kind = 0x02#8 → EntryActs e s (removeBlockOf e.key s)
  | flagSet (f : FlagEntry) : e.kind = 0x03#8 → f.item = e.key → EntryActs e s (putFlag f s)
  | flagClear : e.kind = 0x04#8 → EntryActs e s (removeFlagOf e.key s)
  | loanClear (l : Loan) : e.kind = 0x05#8 → s.loanOf e.key = some l → e.second = some l.borrower → EntryActs e s (removeLoan e.key s)
  | loanKept : e.kind = 0x05#8 → (¬ ∃ l, s.loanOf e.key = some l ∧ e.second = some l.borrower) → EntryActs e s s
  | closureKept : e.kind = 0x06#8 → EntryActs e s s
  | closureAdd : e.kind = 0x06#8 → EntryActs e s (insertClosure e.day s)
  | closureRemove : e.kind = 0x07#8 → EntryActs e s (dropClosure e.day s)

theorem applyEntry_acts {e : UpdateEntry} {s t : State} (h : applyEntry e s = some t) : EntryActs e s t := by
  by_cases k1 : e.kind = 0x01#8
  · rw [applyEntry_blockAdd k1, applyBlockAdd] at h
    split at h
    · cases h
    · dsimp only at h
      split at h
      · rename_i b known
        cases h
        exact .blockAdd _ k1 (BitVec.eq_of_toNat_eq (lookupBy_some Block.key known).2)
      · split at h <;> cases h
        exact .blockAdd _ k1 rfl
  by_cases k2 : e.kind = 0x02#8
  · rw [applyEntry_blockRemove k2, applyBlockRemove] at h
    split at h <;> cases h
    exact .blockRemove k2
  by_cases k3 : e.kind = 0x03#8
  · rw [applyEntry_flagSet k3, applyFlagSet] at h
    split at h
    · cases h
    · split at h
      · cases h
      · dsimp only at h
        split at h
        · cases h
        · split at h <;> cases h
          exact .flagSet _ k3 rfl
  by_cases k4 : e.kind = 0x04#8
  · rw [applyEntry_flagClear k4, applyFlagClear] at h
    split at h <;> cases h
    exact .flagClear k4
  by_cases k5 : e.kind = 0x05#8
  · rw [applyEntry_loanClear k5, loanClear_eq] at h
    split at h <;> cases h
    · rename_i clears
      obtain ⟨l, lent, second⟩ := clears
      exact .loanClear l k5 lent second
    · rename_i kept
      exact .loanKept k5 kept
  by_cases k6 : e.kind = 0x06#8
  · rw [applyEntry_closureAdd k6, applyClosureAdd] at h
    split at h
    · cases h; exact .closureKept k6
    · split at h <;> cases h
      exact .closureAdd k6
  by_cases k7 : e.kind = 0x07#8
  · rw [applyEntry_closureRemove k7] at h
    cases h
    exact .closureRemove k7
  · rw [applyEntry, if_neg k1, if_neg k2, if_neg k3, if_neg k4, if_neg k5, if_neg k6, if_neg k7] at h
    cases h

theorem itemFlagOfByte_code (f : ItemFlag) : itemFlagOfByte (ItemFlag.code f) = some f := by cases f <;> rfl

theorem itemFlagOfByte_none {n : Nat} (h : n % 256 = 0 ∨ 4 < n % 256) : itemFlagOfByte (byte n) = none := by
  have other : ∀ k : Byte, 0 < k.toNat → k.toNat ≤ 4 → byte n ≠ k := fun k pos le same => by
    have value : n % 256 = k.toNat := by rw [← same]; rfl
    omega
  unfold itemFlagOfByte
  rw [if_neg (other _ (by decide) (by decide)), if_neg (other _ (by decide) (by decide)), if_neg (other _ (by decide) (by decide)),
    if_neg (other _ (by decide) (by decide))]

theorem itemFlagOfByte_reserved {n : Nat} (h : n % 256 = 1) : itemFlagOfByte (byte n) = some .reserved := by
  have value : byte n = 0x01#8 := BitVec.eq_of_toNat_eq h
  rw [value]
  rfl

theorem validReserver_iff (second : Option Code) :
    (second.map borrowerValid).getD false = true ↔ ∃ b, second = some b ∧ borrowerValid b = true := by
  cases second <;> simp

/-- FLAG-SET of a flag with its reserver given (R54, R58). -/
theorem applyFlagSet_eq {e : UpdateEntry} {s : State} {flag : ItemFlag} (item : itemValid e.key = true)
    (code : itemFlagOfByte (byte e.parameter) = some flag) (reserver : flag = .reserved → ∃ b, e.second = some b ∧ borrowerValid b = true) :
    applyFlagSet e s = if s.flagOf e.key = none ∧ 512 ≤ s.rm.flags.length then none
      else some (putFlag ⟨e.key, flag, if flag = .reserved then e.second else none, s.clock.day⟩ s) := by
  unfold applyFlagSet
  rw [if_neg (by simp [item]), code]
  dsimp only
  rw [if_neg fun k => by
    have named := (validReserver_iff e.second).mpr (reserver k.1)
    rw [named] at k
    cases k.2]
  exact if_congr (by rw [Option.isNone_iff_eq_none]; rfl) rfl rfl

theorem applyClosureAdd_eq (e : UpdateEntry) (s : State) : applyClosureAdd e s =
    if e.parameter % 65536 ∈ s.rm.closures ∨ e.parameter % 65536 + 120 < s.clock.day then some s
    else if s.rm.closures.length < 64 then some (insertClosure (e.parameter % 65536) s) else none := by
  unfold applyClosureAdd State.isStale UpdateEntry.day
  simp only [Bool.or_eq_true, List.contains_iff_mem, decide_eq_true_eq]
  exact if_congr (or_congr Iff.rfl (by omega)) rfl rfl

/-- What a change of one table leaves, with the ports of `v`. -/
theorem blocks_only {s t v : State} (frame : t = { s with rm := { s.rm with blocks := t.rm.blocks }, ports := v.ports }) :
    t.rm.flags = s.rm.flags ∧ t.rm.loans = s.rm.loans ∧ t.rm.closures = s.rm.closures ∧
      t.rm = { s.rm with blocks := t.rm.blocks, flags := t.rm.flags, loans := t.rm.loans, closures := t.rm.closures } ∧
      t = { s with rm := t.rm, ports := v.ports } := by
  refine ⟨?_, ?_, ?_, ?_, ?_⟩ <;> rw [frame]

theorem flags_only {s t v : State} (frame : t = { s with rm := { s.rm with flags := t.rm.flags }, ports := v.ports }) :
    t.rm.blocks = s.rm.blocks ∧ t.rm.loans = s.rm.loans ∧ t.rm.closures = s.rm.closures ∧
      t.rm = { s.rm with blocks := t.rm.blocks, flags := t.rm.flags, loans := t.rm.loans, closures := t.rm.closures } ∧
      t = { s with rm := t.rm, ports := v.ports } := by
  refine ⟨?_, ?_, ?_, ?_, ?_⟩ <;> rw [frame]

theorem loans_only {s t v : State} (frame : t = { s with rm := { s.rm with loans := t.rm.loans }, ports := v.ports }) :
    t.rm.blocks = s.rm.blocks ∧ t.rm.flags = s.rm.flags ∧ t.rm.closures = s.rm.closures ∧
      t.rm = { s.rm with blocks := t.rm.blocks, flags := t.rm.flags, loans := t.rm.loans, closures := t.rm.closures } ∧
      t = { s with rm := t.rm, ports := v.ports } := by
  refine ⟨?_, ?_, ?_, ?_, ?_⟩ <;> rw [frame]

/-- Settles O55: each kind by its tests, and one operation's frame for the rest. -/
theorem updateEntriesChangeTheirTables : Obligations.UpdateEntriesChangeTheirTables := by
  unfold Obligations.UpdateEntriesChangeTheirTables
  intro e s
  refine ⟨fun kind valid => ?blockAdd, fun kind valid => ?blockRemove, fun kind invalid => ?badBorrower,
    fun flag kind valid code reserver => ?flagSet, fun kind out => ?badFlag, fun kind reserved bad => ?badReserver,
    fun kind valid => ?flagClear, fun kind invalid => ?badItem, fun kind => ?loan, fun kind => ?closureAdd, fun kind => ?closureRemove,
    fun kind => applyEntry_unknown kind s, fun t h => ?frame⟩
  case blockAdd =>
    intro reason
    rw [applyEntry_blockAdd kind, applyBlockAdd, if_neg (by simp [valid])]
    refine ⟨fun x known => ?_, fun new room => ?_, fun new full => ?_⟩
    · have key : x.borrower = e.key := BitVec.eq_of_toNat_eq (lookupBy_some Block.key known).2
      have put := putBlock_blockOf { x with reason := reason, origin := .central } s
      rw [known]
      refine ⟨_, rfl, key ▸ put, ?_⟩
      rw [putBlock_known (x := x) (by rw [show s.blockOf x.borrower = s.blockOf e.key by rw [key]]; exact known)]
      exact length_replaceBy ..
    · rw [new]
      dsimp only
      rw [if_pos (show s.rm.blocks.length < Config.blocksMax from room)]
      exact ⟨_, rfl, putBlock_blockOf ⟨e.key, reason, .central, s.clock.day⟩ s⟩
    · rw [new]
      exact if_neg (Nat.not_lt.mpr full)
  case blockRemove =>
    rw [applyEntry_blockRemove kind, applyBlockRemove, if_pos valid]
    exact ⟨_, rfl, removeBlockOf_blockOf e.key s⟩
  case badBorrower =>
    rcases kind with kind | kind
    · rw [applyEntry_blockAdd kind, applyBlockAdd, if_pos invalid]
    · rw [applyEntry_blockRemove kind, applyBlockRemove, if_neg (by simp [invalid])]
  case flagSet =>
    have byteCode : itemFlagOfByte (byte e.parameter) = some flag := by
      rw [show byte e.parameter = ItemFlag.code flag from code, itemFlagOfByte_code]
    rw [applyEntry_flagSet kind, applyFlagSet_eq valid byteCode reserver]
    refine ⟨fun room => ?_, fun new full => if_pos ⟨new, full⟩⟩
    rw [if_neg fun k => by
      rcases room with there | room
      · rw [k.1] at there; cases there
      · exact absurd k.2 (Nat.not_le.mpr room)]
    exact ⟨_, rfl, putFlag_flagOf _ s⟩
  case badFlag =>
    rw [applyEntry_flagSet kind, applyFlagSet, itemFlagOfByte_none out]
    exact ite_self _
  case badReserver =>
    have none : (e.second.map borrowerValid).getD false = false := by
      rw [← Bool.not_eq_true, validReserver_iff]
      rintro ⟨b, second, valid⟩
      rw [bad b second] at valid
      cases valid
    rw [applyEntry_flagSet kind, applyFlagSet, itemFlagOfByte_reserved reserved]
    dsimp only
    rw [if_pos (show _ ∧ _ from ⟨rfl, none⟩)]
    exact ite_self _
  case flagClear =>
    rw [applyEntry_flagClear kind, applyFlagClear, if_pos valid]
    exact ⟨_, rfl, removeFlagOf_flagOf e.key s⟩
  case badItem =>
    rcases kind with kind | kind
    · rw [applyEntry_flagSet kind, applyFlagSet, if_pos invalid]
    · rw [applyEntry_flagClear kind, applyFlagClear, if_neg (by simp [invalid])]
  case loan =>
    rw [applyEntry_loanClear kind, loanClear_eq]
    refine ⟨_, rfl, fun l lent second => ?_, fun kept => ?_⟩
    · rw [if_pos ⟨l, lent, second⟩, removeLoan_loanOf]
    · rw [if_neg]
      rintro ⟨l, lent, second⟩
      exact kept l lent second
  case closureAdd =>
    intro day
    rw [applyEntry_closureAdd kind, applyClosureAdd_eq]
    refine ⟨fun known => if_pos known, fun new fresh room => ?_, fun new fresh full => ?_⟩
    · rw [if_neg (not_or.mpr ⟨new, by omega⟩), if_pos room]
      exact ⟨_, rfl, fun x => mem_insertBy id day x s.rm.closures⟩
    · rw [if_neg (not_or.mpr ⟨new, by omega⟩), if_neg (Nat.not_lt.mpr full)]
  case closureRemove =>
    rw [applyEntry_closureRemove kind]
    exact ⟨_, rfl, fun x => (mem_removeBy id _ x s.rm.closures).trans and_comm⟩
  case frame =>
    have lookups {u : State} (blocks : u.rm.blocks = s.rm.blocks) (flags : u.rm.flags = s.rm.flags) (loans : u.rm.loans = s.rm.loans)
        (other : Code) : u.blockOf other = s.blockOf other ∧ u.flagOf other = s.flagOf other ∧ u.loanOf other = s.loanOf other :=
      ⟨by rw [State.blockOf, blocks]; rfl, by rw [State.flagOf, flags]; rfl, by rw [State.loanOf, loans]; rfl⟩
    cases applyEntry_acts h with
    | blockAdd b kind key =>
      obtain ⟨flags, loans, closures, rm, frame⟩ := blocks_only (putBlock_frame b s)
      refine ⟨fun k => absurd kind k, fun _ _ => flags, fun _ => loans, fun _ _ => closures, fun other ne => ⟨?_, ?_, ?_⟩, rm, ?_⟩
      · exact putBlock_blockOf_other (key ▸ ne) s
      · rw [State.flagOf, flags]; rfl
      · rw [State.loanOf, loans]; rfl
      · simpa [kind, key, Block.key] using frame
    | blockRemove kind =>
      obtain ⟨flags, loans, closures, rm, frame⟩ := blocks_only (removeBlockOf_frame e.key s)
      refine ⟨fun _ k => absurd kind k, fun _ _ => flags, fun _ => loans, fun _ _ => closures, fun other ne => ⟨?_, ?_, ?_⟩, rm, ?_⟩
      · exact removeBlockOf_blockOf_other ne s
      · rw [State.flagOf, flags]; rfl
      · rw [State.loanOf, loans]; rfl
      · simpa [kind] using frame
    | flagSet f kind key =>
      obtain ⟨blocks, loans, closures, rm, frame⟩ := flags_only (putFlag_frame f s)
      refine ⟨fun _ _ => blocks, fun k => absurd kind k, fun _ => loans, fun _ _ => closures, fun other ne => ⟨?_, ?_, ?_⟩, rm, ?_⟩
      · rw [State.blockOf, blocks]; rfl
      · exact putFlag_flagOf_other (key ▸ ne) s
      · rw [State.loanOf, loans]; rfl
      · simpa [kind, key, FlagEntry.key] using frame
    | flagClear kind =>
      obtain ⟨blocks, loans, closures, rm, frame⟩ := flags_only (removeFlagOf_frame e.key s)
      refine ⟨fun _ _ => blocks, fun _ k => absurd kind k, fun _ => loans, fun _ _ => closures, fun other ne => ⟨?_, ?_, ?_⟩, rm, ?_⟩
      · rw [State.blockOf, blocks]; rfl
      · exact removeFlagOf_flagOf_other ne s
      · rw [State.loanOf, loans]; rfl
      · simpa [kind] using frame
    | loanClear l kind lent second =>
      obtain ⟨blocks, flags, closures, rm, frame⟩ := loans_only (removeLoan_frame e.key s)
      refine ⟨fun _ _ => blocks, fun _ _ => flags, fun k => absurd kind k, fun _ _ => closures, fun other ne => ⟨?_, ?_, ?_⟩, rm, ?_⟩
      · rw [State.blockOf, blocks]; rfl
      · rw [State.flagOf, flags]; rfl
      · exact removeLoan_loanOf_other ne s
      · simpa [kind, lent, second] using frame
    | loanKept kind kept =>
      refine ⟨fun _ _ => rfl, fun _ _ => rfl, fun _ => rfl, fun _ _ => rfl, fun other _ => lookups rfl rfl rfl other, rfl, ?_⟩
      have stays : ¬ (e.kind = 0x05#8 ∧ s.loanOf e.key ≠ none ∧ (s.loanOf e.key).map Loan.borrower = e.second) := by
        rintro ⟨_, there, second⟩
        obtain ⟨l, lent⟩ := Option.ne_none_iff_exists'.mp there
        exact kept ⟨l, lent, by rw [← second, lent]; rfl⟩
      simp [stays]
      simp [kind]
    | closureKept kind =>
      exact ⟨fun _ _ => rfl, fun _ _ => rfl, fun _ => rfl, fun _ _ => rfl, fun other _ => lookups rfl rfl rfl other, rfl, by simp [kind]⟩
    | closureAdd kind =>
      exact ⟨fun _ _ => rfl, fun _ _ => rfl, fun _ => rfl, fun k => absurd kind k, fun other _ => lookups rfl rfl rfl other, rfl,
        by simp [kind, insertClosure]⟩
    | closureRemove kind =>
      exact ⟨fun _ _ => rfl, fun _ _ => rfl, fun _ => rfl, fun _ k => absurd kind k, fun other _ => lookups rfl rfl rfl other, rfl,
        by simp [kind, dropClosure]⟩

end Sys2Proof.Machine
end

section
/-! PROOF. Starts, cuts, reset and loss of power (O3 to O6). -/

namespace Sys2Proof.Machine

theorem start_cold {roleA roleB : Role} {s : State} (stopped : s.running = false) (power : s.pfail = false)
    (cold : s.startsCold roleA roleB = true) : exec (.start roleA roleB) s = .next (coldStart roleA roleB s) := by
  have exec_ : exec (.start roleA roleB) s = .next (onStart roleA roleB s) := rfl
  rw [exec_, onStart, if_neg (by simp [stopped, power]), if_pos cold]

theorem start_warm {roleA roleB : Role} {s : State} (stopped : s.running = false) (power : s.pfail = false)
    (warm : s.startsCold roleA roleB = false) : exec (.start roleA roleB) s = .next (warmStart roleA roleB s) := by
  have exec_ : exec (.start roleA roleB) s = .next (onStart roleA roleB s) := rfl
  rw [exec_, onStart, if_neg (by simp [stopped, power]), if_neg (by simp [warm])]

/-- Settles O3: the state of a cold start, field by field. -/
theorem coldStartLaysOutRecordMemory : Obligations.ColdStartLaysOutRecordMemory := by
  unfold Obligations.ColdStartLaysOutRecordMemory
  intro roleA roleB s stopped power cause
  have cold : s.startsCold roleA roleB = true := by
    rcases cause with marker | ⟨held, a, b⟩
    · simp [State.startsCold, marker]
    · simp [State.startsCold, held, a, b]
  refine ⟨coldStart roleA roleB s, start_cold stopped power cold, rfl, rfl, rfl, rfl, rfl, rfl, rfl, rfl, rfl, rfl, rfl, rfl, rfl, rfl, rfl,
    fun st => ?_, rfl, rfl, fun p => ?_, power, rfl⟩
  · cases st <;> exact ⟨rfl, rfl, rfl⟩
  · cases p <;> rfl

/-! ### The warm start (O4) -/

/-- The state of a warm start with STARTED posted, before JOURNAL-HIGH. -/
def warmed (roleA roleB : Role) (s : State) : State :=
  postAll (startedEvent (unsend (recoverCommit s)).warmKind) (freshWorking roleA roleB (recovered s))

theorem freshWorking_rest (roleA roleB : Role) (w : State) :
    (freshWorking roleA roleB w).config = w.config ∧ (freshWorking roleA roleB w).checkWord = w.checkWord ∧
      (freshWorking roleA roleB w).clock = w.clock ∧ (freshWorking roleA roleB w).windowJudged = w.windowJudged ∧
      (freshWorking roleA roleB w).rm = w.rm ∧ (freshWorking roleA roleB w).commit = w.commit ∧
      (freshWorking roleA roleB w).nextSlip = w.nextSlip ∧ (freshWorking roleA roleB w).marker = w.marker ∧
      (freshWorking roleA roleB w).pfail = w.pfail ∧ (freshWorking roleA roleB w).pending = w.pending :=
  ⟨rfl, rfl, rfl, rfl, rfl, rfl, rfl, rfl, rfl, rfl⟩

theorem warmStart_eq (roleA roleB : Role) (s : State) : warmStart roleA roleB s = highWater (warmed roleA roleB s) := rfl

/-- An event posted to two ports whose queues are empty. -/
theorem postAll_fresh {w : State} {roleA roleB : Role} (h : w.ports = ⟨PortState.fresh roleA, PortState.fresh roleB⟩) (e : Event) :
    postAll e w = { w with ports := ⟨{ PortState.fresh roleA with events := [e] }, { PortState.fresh roleB with events := [e] }⟩ } := by
  simp only [postAll, post, State.putPort, State.port, h]
  rfl

theorem warmed_frame (roleA roleB : Role) (s : State) : warmed roleA roleB s = { freshWorking roleA roleB (recovered s) with
    ports := ⟨{ PortState.fresh roleA with events := [startedEvent (unsend (recoverCommit s)).warmKind] },
      { PortState.fresh roleB with events := [startedEvent (unsend (recoverCommit s)).warmKind] }⟩ } :=
  postAll_fresh rfl _

theorem recovered_rm (s : State) : (recovered s).rm = (unsend (recoverCommit s)).rm := by rw [recovered_eq]

/-- What the recovery of a warm start leaves of the working memory and the clock. -/
theorem recovered_rest (s : State) : (recovered s).commit = .empty ∧ (recovered s).nextSlip = s.nextSlip ∧ (recovered s).clock = s.clock ∧
    (recovered s).marker = s.marker ∧ (recovered s).pfail = s.pfail ∧ (recovered s).pending = s.pending ∧ (recovered s).slip = s.slip := by
  rw [recovered_eq]
  exact ⟨rfl, rfl, rfl, rfl, rfl, rfl, rfl⟩

theorem recovered_content_complete {s : State} {image : Collections} (complete : s.commit = .complete image) :
    (recovered s).rm.content = image.content := by
  rw [recovered_rm, unsend_content, recoverCommit, complete]

theorem recovered_content_lost {s : State} (lost : ∀ image, s.commit ≠ .complete image) :
    (recovered s).rm.content = s.rm.content := by
  have recover : recoverCommit s = { s with commit := .empty } := by
    unfold recoverCommit
    cases h : s.commit with
    | complete image => exact absurd h (lost image)
    | empty => rfl
    | incomplete => rfl
  rw [recovered_rm, unsend_content, recover]

theorem recovered_unsent (s : State) : ∀ r ∈ (recovered s).rm.journal, r.sent = false := by
  rw [recovered_rm]
  exact unsend_unsent _

theorem settingsWhole_recovered (s : State) : (unsend (recoverCommit s)).settingsWhole = s.settingsWhole := by
  rw [recoverCommit_eq]
  rfl

theorem recovered_kept {s : State} (whole : checkWordOf s.config = s.checkWord) :
    (recovered s).config = s.config ∧ (recovered s).checkWord = s.checkWord := by
  have h : s.settingsWhole = true := beq_iff_eq.mpr whole
  unfold recovered checkSettings
  rw [settingsWhole_recovered, if_pos h, recoverCommit_eq]
  exact ⟨rfl, rfl⟩

theorem recovered_defaults {s : State} (torn : checkWordOf s.config ≠ s.checkWord) :
    (recovered s).config = Configuration.factory ∧ (recovered s).checkWord = checkWordOf Configuration.factory := by
  have h : ¬ s.settingsWhole = true := fun k => torn (beq_iff_eq.mp k)
  unfold recovered checkSettings
  rw [settingsWhole_recovered, if_neg h]
  exact ⟨rfl, rfl⟩

theorem warmKind_eq (s : State) : (unsend (recoverCommit s)).warmKind =
    if checkWordOf s.config = s.checkWord then .warm else .warmConfigLost := by
  rw [State.warmKind, settingsWhole_recovered]
  exact if_congr beq_iff_eq rfl rfl

/-- The end of a step but for what JOURNAL-HIGH and its arming change. -/
theorem highWater_kept {α : Type} (f : State → α) (h : ∀ u ports armed, f { u with ports := ports, armed := armed } = f u) (s : State) :
    f (highWater s) = f s := by
  rw [highWater_frame, h]

theorem startedLink_eq (s : State) : startedLink s =
    { run := if s.windowJudged then .armed else .idle, windowOpen := s.windowJudged, frame := .none, attempts := 0, timeouts := 0,
      confirmed := 0, applied := 0, replyTimer := false, retry := if s.windowJudged then some s.config.retryInterval else none,
      random := randomSeed s.config.address s.clock.minute, outcome := .none, seek := .off, jam := none, reply := none,
      sending := [] } := by
  unfold startedLink Link.fresh
  cases s.windowJudged <;> rfl

theorem warmed_high (roleA roleB : Role) (s : State) :
    (highWater (warmed roleA roleB s)).armed = decide ((recovered s).rm.journal.length < 3584) := by
  rw [highWater_armed]
  show (true && !decide (3584 ≤ (recovered s).rm.journal.length)) = _
  rw [Bool.true_and, ← decide_not]
  exact decide_eq_decide.mpr Nat.not_le

/-- The queues of a warm start: STARTED, and at a STAFF port JOURNAL-HIGH where it is due (R38, R187). -/
theorem warmed_port (roleA roleB : Role) (s : State) (p : Port) : (highWater (warmed roleA roleB s)).port p =
    { PortState.fresh (if p = .A then roleA else roleB) with
      events := startedEvent (unsend (recoverCommit s)).warmKind ::
        (if 3584 ≤ (recovered s).rm.journal.length ∧ (if p = .A then roleA else roleB) = .staff then
          [⟨.journalHigh, none, none, some (.number (recovered s).rm.journal.length), none⟩] else []) } := by
  have armed : (warmed roleA roleB s).armed = true := rfl
  have length : (warmed roleA roleB s).rm.journal.length = (recovered s).rm.journal.length := rfl
  unfold highWater Config.highWaterMark
  rw [armed, length, warmed_frame]
  by_cases high : 3584 ≤ (recovered s).rm.journal.length
  · rw [if_pos (by simpa using high)]
    cases p <;> cases roleA <;> cases roleB <;> simp only [high] <;> rfl
  · rw [if_neg (by simpa using high)]
    cases p <;> simp only [high] <;> rfl

/-- What the posts and the arming of a warm start leave as the fresh working memory has it. -/
theorem warmStart_kept {α : Type} (roleA roleB : Role) (s : State) (f : State → α)
    (h : ∀ u ports armed, f { u with ports := ports, armed := armed } = f u) :
    f (warmStart roleA roleB s) = f (freshWorking roleA roleB (recovered s)) := by
  rw [warmStart_eq, highWater_kept f h, warmed_frame]
  exact h _ _ true

/-- Settles O4: the recovered record memory and settings, and the fresh working memory. -/
theorem warmStartKeepsRecordMemory : Obligations.WarmStartKeepsRecordMemory := by
  unfold Obligations.WarmStartKeepsRecordMemory
  intro roleA roleB s stopped power marker notBoth
  have warm : s.startsCold roleA roleB = false := by
    cases held : s.resetHeld with
    | false => simp [State.startsCold, marker, held]
    | true =>
      cases roleA with
      | staff => simp [State.startsCold, marker, held]
      | kiosk => simp [State.startsCold, marker, held, notBoth held rfl]
  have started := start_warm stopped power warm
  have kept {α : Type} (f : State → α) (h : ∀ u ports armed, f { u with ports := ports, armed := armed } = f u) :=
    warmStart_kept roleA roleB s f h
  obtain ⟨fConfig, fWord, fClock, fJudged, fRm, fCommit, fNext, fMarker, fPfail, fPending⟩ := freshWorking_rest roleA roleB (recovered s)
  obtain ⟨commit, nextSlip, clock', marker', pfail, pending, slip'⟩ := recovered_rest s
  have config := (kept State.config fun _ _ _ => rfl).trans fConfig
  have word := (kept State.checkWord fun _ _ _ => rfl).trans fWord
  have clock := (kept State.clock fun _ _ _ => rfl).trans fClock
  have judged := (kept State.windowJudged fun _ _ _ => rfl).trans fJudged
  have slip : (warmStart roleA roleB s).slip = SlipUnit.fresh s.slip.paperOut :=
    (kept State.slip fun _ _ _ => rfl).trans (congrArg (fun u : SlipUnit => SlipUnit.fresh u.paperOut) slip')
  have records := (kept State.rm fun _ _ _ => rfl).trans fRm
  refine ⟨_, started, fun image complete => ?content, fun lost => ?content', ?unsent,
    (kept State.commit fun _ _ _ => rfl).trans (fCommit.trans commit), (kept State.nextSlip fun _ _ _ => rfl).trans (fNext.trans nextSlip),
    clock.trans clock', (kept State.marker fun _ _ _ => rfl).trans (fMarker.trans (marker'.trans marker)), fun whole => ⟨?_, ?_⟩, fun torn => ⟨?_, ?_⟩,
    kept State.running fun _ _ _ => rfl, kept State.mainPower fun _ _ _ => rfl, kept State.resetHeld fun _ _ _ => rfl,
    kept State.modeHold fun _ _ _ => rfl, (kept State.modeWindow fun _ _ _ => rfl).trans judged.symm, ?mode, ?link, fun st => ?_,
    ?slip, ?armed, fun p => ?_, kept State.purgeWaits fun _ _ _ => rfl,
    (kept State.pfail fun _ _ _ => rfl).trans (fPfail.trans (pfail.trans power)),
    (kept State.pending fun _ _ _ => rfl).trans (fPending.trans pending)⟩
  case content => rw [records, recovered_content_complete complete]
  case content' => rw [records, recovered_content_lost lost]
  case unsent => rw [records]; exact recovered_unsent s
  · exact config.trans (recovered_kept whole).1
  · exact word.trans (recovered_kept whole).2
  · exact config.trans (recovered_defaults torn).1
  · exact word.trans (recovered_defaults torn).2
  case mode =>
    rw [judged]
    exact kept State.mode fun _ _ _ => rfl
  case link =>
    rw [judged, config, clock]
    exact (kept State.link fun _ _ _ => rfl).trans (startedLink_eq _)
  · refine ⟨(kept (·.station st) fun _ _ _ => rfl).trans ?_, (kept (·.slot st) fun _ _ _ => rfl).trans ?_, ?_⟩
    · exact PerStation.get_const WandStation.fresh st
    · exact PerStation.get_const Slot.fresh st
    · rw [slip]
      exact PerStation.get_const none st
  case slip => rw [slip]; rfl
  case armed => rw [records]; exact warmed_high roleA roleB s
  · rw [records, ← warmKind_eq]
    exact warmed_port roleA roleB s p

end Sys2Proof.Machine
end

section
/-! PROOF. A step or a setting that a reset or a loss of power cuts off (O5). -/

namespace Sys2Proof.Machine

/-! ### The fall of PFAIL under a step -/

theorem confirm_pfail (m : Nat) (s : State) : (confirm m s).pfail = s.pfail := by rw [confirm_frame]

theorem onAckFrame_pfail (f : List Byte) (s : State) : (onAckFrame f s).pfail = s.pfail := by
  have heard : (heardActivity f s).pfail = s.pfail := by rw [heardActivity_eq]
  have linked : ∀ (g : Link → Link) (u : State), (onLink g u).pfail = u.pfail := fun _ _ => rfl
  unfold onAckFrame
  dsimp only
  split
  · split
    · exact heard
    · rw [linked, confirm_pfail, heard]
  · exact heard

theorem runUnderWay_power {u : UnderWay} {s : State} (power : s.pfail = false ∨ u = .pfailFall) : (runUnderWay u s).pfail = false := by
  rcases power with low | rfl
  · cases u with
    | checkoutStep st => exact (whole_onCheckoutStep st s).pfail.trans low
    | returnStep st => exact (whole_onReturnStep st s).pfail.trans low
    | renewStep st => exact (whole_onRenewStep st s).pfail.trans low
    | command p => exact (whole_runBuffered p s).pfail.trans low
    | ackFrame f => exact (onAckFrame_pfail f s).trans low
    | updateFrame f => exact (whole_onUpdateFrame f s).pfail.trans low
    | broadcastUpdate f => exact (whole_onBroadcastUpdate f s).pfail.trans low
    | endFrame f => exact (whole_onEndFrame f s).pfail.trans low
    | newMinute => exact (whole_onNewMinute s).pfail.trans low
    | pfailFall => exact (writes_onPfailFall s).pfail
  · exact (writes_onPfailFall s).pfail

/-- What a warm start that follows a cut keeps. -/
theorem warmStart_rest (roleA roleB : Role) (s : State) :
    (warmStart roleA roleB s).running = true ∧ (warmStart roleA roleB s).pfail = s.pfail ∧ (warmStart roleA roleB s).clock = s.clock ∧
      (warmStart roleA roleB s).nextSlip = s.nextSlip ∧ (warmStart roleA roleB s).rm = (recovered s).rm ∧
      (warmStart roleA roleB s).config = (recovered s).config ∧ (warmStart roleA roleB s).checkWord = (recovered s).checkWord := by
  obtain ⟨fConfig, fWord, fClock, fJudged, fRm, fCommit, fNext, fMarker, fPfail, fPending⟩ := freshWorking_rest roleA roleB (recovered s)
  obtain ⟨commit, nextSlip, clock, marker, pfail, pending, slip⟩ := recovered_rest s
  have kept {α : Type} (f : State → α) (h : ∀ u ports armed, f { u with ports := ports, armed := armed } = f u) :=
    warmStart_kept roleA roleB s f h
  exact ⟨kept State.running fun _ _ _ => rfl, (kept State.pfail fun _ _ _ => rfl).trans (fPfail.trans pfail),
    (kept State.clock fun _ _ _ => rfl).trans (fClock.trans clock),
    (kept State.nextSlip fun _ _ _ => rfl).trans (fNext.trans nextSlip), (kept State.rm fun _ _ _ => rfl).trans fRm,
    (kept State.config fun _ _ _ => rfl).trans fConfig, (kept State.checkWord fun _ _ _ => rfl).trans fWord⟩

/-- A start follows the cut with a STAFF strap at port B, and is warm (R191). -/
theorem start_after_cut {roleA : Role} {t : State} (stopped : t.running = false) (power : t.pfail = false) (marker : t.marker = true) :
    exec (.start roleA .staff) t = .next (warmStart roleA .staff t) :=
  start_warm stopped power (by simp [State.startsCold, marker])

/-! ### One setting of one or two bytes changes the check word (R194) -/

/-- A change of one field of one or two bytes, wherever it stands, changes the check word. -/
theorem checkWord_of_split {c c' : Configuration} {before after : List (List Byte)} {x y : List Byte}
    (old : settingFields c = before ++ x :: after) (new : settingFields c' = before ++ y :: after) (short : x.length ≤ 2)
    (same : y.length = x.length) (h : checkWordOf c' = checkWordOf c) : y = x := by
  have place : before.length < Config.settingCount := by
    rw [← length_settingFields c, old]; simp
  have oldAt : (settingFields c).getD before.length [] = x := by rw [old]; simp
  have newAt : (settingFields c').getD before.length [] = y := by rw [new]; simp
  have kept := checkWord_of_field (c := c) (c' := c') ⟨before.length, place⟩ (fun j other => ?_) (by rw [oldAt]; exact short)
    (by rw [oldAt, newAt]; exact same) h
  · rw [← oldAt, ← newAt]; exact kept
  · rw [old, new]
    simp only [List.getD_eq_getElem?_getD]
    rcases Nat.lt_or_ge j before.length with lt | ge
    · rw [List.getElem?_append_left lt, List.getElem?_append_left lt]
    · obtain ⟨k, rfl⟩ : ∃ k, j = before.length + (k + 1) := ⟨j - before.length - 1, by simp only at other; omega⟩
      rw [List.getElem?_append_right (by omega), List.getElem?_append_right (by omega)]
      simp

theorem ownerCode_injective : Function.Injective ownerCode := by
  rintro (_ | _ | _) (_ | _ | _) h <;> first | rfl | exact absurd h (by decide)

theorem be16_injective {n m : Nat} (hn : n < 65536) (hm : m < 65536) (h : be16 n = be16 m) : n = m := by
  rw [← numAt_be16 hn [], ← numAt_be16 hm [], h]

theorem be16_length (n : Nat) : (be16 n).length = 2 := rfl

/-- The fields after those of the stations. -/
def laterFields (c : Configuration) : List (List Byte) :=
  c.hours.toList.flatMap hoursFields ++ c.itemClasses.toList.flatMap itemClassFields
    ++ c.periods.toList.flatMap (fun row => row.toList.map (fun n => [byte n]))
    ++ c.borrowerClasses.toList.flatMap borrowerClassFields ++ [be24 c.threshold, c.header, be16 c.idleTime]
    ++ [[byte c.address], [c.system.extractLsb' 8 8, c.system.extractLsb' 0 8], be16 c.windowStart, be16 c.windowEnd,
        [byte c.retryInterval]]

theorem settingFields_eq (c : Configuration) : settingFields c =
    stationFields c.stations.s0 ++ (stationFields c.stations.s1 ++ (stationFields c.stations.s2 ++
      (stationFields c.stations.s3 ++ laterFields c))) := by
  simp [settingFields, laterFields]

/-- The settings as bytes, with the owner of one station apart. -/
theorem settingFields_owner (c : Configuration) (st : Station) : ∃ before after, ∀ owner,
    settingFields { c with stations := c.stations.set st { c.stations.get st with owner := owner } } =
      before ++ [ownerCode owner] :: after := by
  cases st with
  | s0 => exact ⟨[], [be16 c.stations.s0.repeatWindow, be16 c.stations.s0.timeout] ++ (stationFields c.stations.s1 ++
      (stationFields c.stations.s2 ++ (stationFields c.stations.s3 ++ laterFields c))), fun owner => by
        rw [settingFields_eq]; rfl⟩
  | s1 => exact ⟨stationFields c.stations.s0, [be16 c.stations.s1.repeatWindow, be16 c.stations.s1.timeout] ++
      (stationFields c.stations.s2 ++ (stationFields c.stations.s3 ++ laterFields c)), fun owner => by
        rw [settingFields_eq]; rfl⟩
  | s2 => exact ⟨stationFields c.stations.s0 ++ stationFields c.stations.s1,
      [be16 c.stations.s2.repeatWindow, be16 c.stations.s2.timeout] ++ (stationFields c.stations.s3 ++ laterFields c), fun owner => by
        rw [settingFields_eq]; rfl⟩
  | s3 => exact ⟨stationFields c.stations.s0 ++ stationFields c.stations.s1 ++ stationFields c.stations.s2,
      [be16 c.stations.s3.repeatWindow, be16 c.stations.s3.timeout] ++ laterFields c, fun owner => by
        rw [settingFields_eq]; rfl⟩

theorem settingFields_idleTime (c : Configuration) : ∃ before after, ∀ n,
    settingFields { c with idleTime := n } = before ++ be16 n :: after := by
  refine ⟨([c.stations.s0, c.stations.s1, c.stations.s2, c.stations.s3].flatMap stationFields
    ++ c.hours.toList.flatMap hoursFields ++ c.itemClasses.toList.flatMap itemClassFields
    ++ c.periods.toList.flatMap (fun row => row.toList.map (fun n => [byte n]))
    ++ c.borrowerClasses.toList.flatMap borrowerClassFields) ++ [be24 c.threshold, c.header],
    [[byte c.address], [c.system.extractLsb' 8 8, c.system.extractLsb' 0 8], be16 c.windowStart, be16 c.windowEnd,
        [byte c.retryInterval]], fun n => ?_⟩
  simp [settingFields]

/-- A list with one place apart. -/
theorem set_split {α : Type} {l : List α} {i : Nat} (h : i < l.length) (x : α) : l.set i x = l.take i ++ x :: l.drop (i + 1) := by
  rw [List.set_eq_take_append_cons_drop, if_pos h]

theorem settingFields_period (c : Configuration) (ic : Fin 16) (bc : Fin 8) : ∃ before after, ∀ n,
    settingFields { c with periods := c.periods.set ic ((c.periods.get ic).set bc n) } = before ++ [byte n] :: after := by
  let row : Vector Nat 8 → List (List Byte) := fun r => r.toList.map (fun n => [byte n])
  let first := [c.stations.s0, c.stations.s1, c.stations.s2, c.stations.s3].flatMap stationFields
    ++ c.hours.toList.flatMap hoursFields ++ c.itemClasses.toList.flatMap itemClassFields
  let last := c.borrowerClasses.toList.flatMap borrowerClassFields ++ [be24 c.threshold, c.header, be16 c.idleTime]
    ++ [[byte c.address], [c.system.extractLsb' 8 8, c.system.extractLsb' 0 8], be16 c.windowStart, be16 c.windowEnd,
        [byte c.retryInterval]]
  refine ⟨first ++ (c.periods.toList.take ic).flatMap row ++ ((c.periods.get ic).toList.take bc).map (fun n => [byte n]),
    ((c.periods.get ic).toList.drop (bc + 1)).map (fun n => [byte n]) ++ (c.periods.toList.drop (ic + 1)).flatMap row ++ last,
    fun n => ?_⟩
  have rows : (c.periods.set ic ((c.periods.get ic).set bc n)).toList =
      c.periods.toList.take ic ++ (c.periods.get ic).set bc n :: c.periods.toList.drop (ic + 1) := by
    rw [Vector.toList_set, set_split (by simp)]
  have cells : ((c.periods.get ic).set bc n).toList =
      (c.periods.get ic).toList.take bc ++ n :: (c.periods.get ic).toList.drop (bc + 1) := by
    rw [Vector.toList_set, set_split (by simp)]
  simp only [settingFields, rows, List.flatMap_append, List.flatMap_cons, cells, List.map_append, List.map_cons]
  simp only [first, last, row, List.flatMap_cons, List.append_assoc, List.cons_append]

/-- The three settings that a command changes alone, as O5 names them. -/
inductive OneSetting (c : Configuration) : Configuration → Prop
  | owner (st : Station) (owner : Option Port) :
    OneSetting c { c with stations := c.stations.set st { c.stations.get st with owner := owner } }
  | period (ic : Fin 16) (bc : Fin 8) (n : Nat) : n < 256 →
    OneSetting c { c with periods := c.periods.set ic ((c.periods.get ic).set bc n) }
  | idleTime (n : Nat) : n < 65536 → OneSetting c { c with idleTime := n }

theorem owner_same (c : Configuration) (st : Station) :
    { c with stations := c.stations.set st { c.stations.get st with owner := (c.stations.get st).owner } } = c := by
  show { c with stations := c.stations.set st (c.stations.get st) } = c
  rw [PerStation.set_get]

theorem vector_set_get {α : Type} {n : Nat} (v : Vector α n) (i : Fin n) : v.set i (v.get i) = v := Vector.set_getElem_self i.isLt

theorem period_same (c : Configuration) (ic : Fin 16) (bc : Fin 8) :
    { c with periods := c.periods.set ic ((c.periods.get ic).set bc ((c.periods.get ic).get bc)) } = c := by
  rw [vector_set_get, vector_set_get]

/-- A change of one of the three settings changes the check word. -/
theorem oneSetting_checkWord {c c' : Configuration} (range : SettingsInRange c) (h : OneSetting c c')
    (same : checkWordOf c' = checkWordOf c) : c' = c := by
  cases h with
  | owner st owner =>
    obtain ⟨before, after, fields⟩ := settingFields_owner c st
    have old : settingFields c = before ++ [ownerCode (c.stations.get st).owner] :: after := by
      rw [← fields, owner_same]
    have code := checkWord_of_split old (fields owner) (by simp) rfl same
    rw [ownerCode_injective (List.singleton_inj.mp code), owner_same]
  | period ic bc n small =>
    obtain ⟨before, after, fields⟩ := settingFields_period c ic bc
    have old : settingFields c = before ++ [byte ((c.periods.get ic).get bc)] :: after := by
      rw [← fields, period_same]
    have cell := checkWord_of_split old (fields n) (by simp) rfl same
    have bound : (c.periods.get ic).get bc ≤ 255 := (range.periods ic bc).1
    have value : n = (c.periods.get ic).get bc := by
      have bits := congrArg BitVec.toNat (List.singleton_inj.mp cell)
      simp only [byte, BitVec.toNat_ofNat] at bits
      omega
    rw [value, period_same]
  | idleTime n small =>
    obtain ⟨before, after, fields⟩ := settingFields_idleTime c
    have bytes := checkWord_of_split (fields c.idleTime) (fields n) (by simp [be16_length]) rfl same
    have bound := range.idleTime
    rw [be16_injective small (by omega) bytes]

theorem assignStation_config (p : Port) (ps : List Byte) (s : State) : (assignStation p ps s).after.config = s.config ∨
    OneSetting s.config (assignStation p ps s).after.config := by
  unfold assignStation withStation
  split
  · rename_i st _
    dsimp only
    split
    · exact .inl rfl
    · split
      · exact .inl rfl
      · exact .inr (.owner st _)
  · exact .inl rfl

theorem setPeriod_config (p : Port) (ps : List Byte) (s : State) : (setPeriod p ps s).after.config = s.config ∨
    OneSetting s.config (setPeriod p ps s).after.config := by
  have byte_ := (byteAt ps 2).isLt
  unfold setPeriod
  split
  · exact .inr (.period _ _ _ (by unfold storedPeriod; split <;> omega))
  · exact .inl rfl

/-- What the three commands write, if they write a setting. -/
theorem oneSetting_of_command {s : State} {p : Port} {code : Byte} {params : List Byte} (h : Executing s p code params)
    (named : code ∈ [0x10#8, 0x45#8, 0x54#8]) (torn : (runBuffered p s).config ≠ s.config) :
    OneSetting s.config (runBuffered p s).config := by
  have ran (cmd : Command) (rule : commandRules.lookup code = some cmd) :
      (runBuffered p s).config = s.config ∨ (runBuffered p s).config = (cmd p params s).after.config := by
    have run : runBuffered p s = deliver p (answerOf code cmd p params s) := by
      rw [← runCommand_eq cmd h, runBuffered, h.command]
      dsimp only
      rw [rule]
    rw [run]
    show (answerOf code cmd p params s).after.config = _ ∨ (answerOf code cmd p params s).after.config = _
    unfold answerOf
    split
    · exact .inl rfl
    · exact .inr rfl
  simp only [List.mem_cons, List.not_mem_nil, or_false] at named
  rcases named with rfl | rfl | rfl
  · have after := (ran assignStation rfl).resolve_left torn
    rw [after] at torn ⊢
    exact (assignStation_config ..).resolve_left torn
  · have after := (ran setPeriod rfl).resolve_left torn
    rw [after] at torn ⊢
    exact (setPeriod_config ..).resolve_left torn
  · rw [(ran setPrinter rfl).resolve_left torn]
    exact .idleTime _ (by have := numAt_lt params 0; unfold storedIdleTime; split <;> omega)

/-- The state of a torn setting, and the warm start after it. -/
theorem settingTorn_cut {p : Port} {s : State} (run : s.running = true) (marker : s.marker = true) :
    ∃ t, exec (.powerLoss (.settingTorn p) true) s = .next t ∧ t.running = false ∧ t.pfail = s.pfail ∧ t.marker = true ∧
      t.config = (runBuffered p s).config ∧ t.checkWord = s.checkWord ∧ t.rm = s.rm ∧ t.commit = s.commit ∧ t.clock = s.clock ∧
      t.nextSlip = s.nextSlip := by
  refine ⟨onPowerLoss (.settingTorn p) true s, rfl, rfl, ?_⟩
  unfold onPowerLoss cutOff
  rw [if_pos run]
  exact ⟨rfl, by rw [marker]; rfl, rfl, rfl, rfl, rfl, rfl, rfl⟩

/-- The state of a step cut off by the reset pin. -/
theorem reset_cut {u : UnderWay} {s : State} {area : CommitArea} {cut : Cut} (run : s.running = true)
    (cuts : applyCut cut s = { movedBy u s with commit := area }) :
    ∃ t, exec (.resetAssert cut) s = .next t ∧ t.running = false ∧ t.pfail = (runUnderWay u s).pfail ∧ t.marker = s.marker ∧
      t.clock = (runUnderWay u s).clock ∧ t.rm = s.rm ∧ t.commit = area := by
  refine ⟨onResetAssert cut s, rfl, rfl, ?_⟩
  unfold onResetAssert cutOff
  rw [if_pos run, cuts]
  exact ⟨rfl, rfl, rfl, rfl, rfl⟩

/-- Settles O5: the commit area of the cut, and the check word of a torn setting. -/
theorem cutOffStepIsWholeOrLost : Obligations.CutOffStepIsWholeOrLost := by
  unfold Obligations.CutOffStepIsWholeOrLost
  refine ⟨fun u s t roleA run power marker => ⟨fun cut => ?complete, fun cut => ?filling⟩, fun p s roleA run power marker empty word => ?torn⟩
  case complete =>
    obtain ⟨t', same, stopped, pfail, kept, clock, rm, commit⟩ :=
      reset_cut (u := u) (area := .complete (runUnderWay u s).rm) (cut := .complete u) run rfl
    have reached : t' = t := Host.Outcome.next.inj (same.symm.trans cut)
    subst reached
    obtain ⟨running, pfail', clock', _, rm', _, _⟩ := warmStart_rest roleA .staff t'
    have low := pfail.trans (runUnderWay_power power)
    exact ⟨_, start_after_cut stopped low (kept.trans marker), running, pfail'.trans low, clock'.trans clock,
      by rw [rm', recovered_content_complete commit]⟩
  case filling =>
    obtain ⟨t', same, stopped, pfail, kept, clock, rm, commit⟩ :=
      reset_cut (u := u) (area := .incomplete) (cut := .filling u) run rfl
    have reached : t' = t := Host.Outcome.next.inj (same.symm.trans cut)
    subst reached
    obtain ⟨running, pfail', clock', _, rm', _, _⟩ := warmStart_rest roleA .staff t'
    have low := pfail.trans (runUnderWay_power power)
    exact ⟨_, start_after_cut stopped low (kept.trans marker), running, pfail'.trans low, clock'.trans clock,
      by rw [rm', recovered_content_lost (fun image => by rw [commit]; simp), rm]⟩
  case torn =>
    intro torn
    obtain ⟨t, cut, stopped, pfail, kept, config, word', rm, commit, clock, next⟩ := settingTorn_cut (p := p) run marker
    obtain ⟨_, _, clock', next', rm', config', word''⟩ := warmStart_rest roleA .staff t
    refine ⟨⟨t, _, cut, start_after_cut stopped (pfail.trans power) kept, ?_, clock'.trans clock, next'.trans next, fun agree => ?_,
      fun differ => ?_⟩, fun code params h named range changed same =>
        changed (oneSetting_checkWord range (oneSetting_of_command h named changed) same)⟩
    · rw [rm', recovered_content_lost (fun image => by rw [commit, empty]; simp), rm]
    · rw [config', (recovered_kept (s := t) (by rw [config, word', word]; exact agree)).1, config]
    · have defaults := recovered_defaults (s := t) (by rw [config, word', word]; exact differ)
      refine ⟨config'.trans defaults.1, word''.trans defaults.2, fun q => ?_⟩
      have lost : ¬ checkWordOf t.config = t.checkWord := by rw [config, word', word]; exact differ
      rw [warmStart_eq, warmed_port, warmKind_eq, if_neg lost]
      rfl

end Sys2Proof.Machine
end

section
/-! PROOF. Reset, loss of power, the stopped part and PFAIL (O6). -/

namespace Sys2Proof.Machine

/-! ### The stopped part (R191) -/

section
variable {s : State} (stopped : s.running = false)
include stopped

theorem hears_stopped : s.hears = false := by simp [State.hears, stopped]

theorem heardActivity_stopped (f : List Byte) : heardActivity f s = s := by simp [heardActivity, hears_stopped stopped]

theorem codeToTake_stopped (st : Station) : s.codeToTake st = none := by simp [State.codeToTake, stopped]

theorem seeksGap_stopped : s.seeksGap = none := by simp [State.seeksGap, stopped]

theorem dataWrite_stopped (p : Port) (b : Byte) : dataWrite p b s = s := by simp [dataWrite, stopped]

theorem dataRead_stopped (p : Port) : dataRead p s = s := by simp [dataRead, stopped]

theorem onPortReset_stopped (p : Port) : onPortReset p s = s := by simp [onPortReset, stopped]

theorem busCycle_stopped (p : Port) (c : BusCycle) : busCycle p c s = s := by
  unfold busCycle
  split
  · rfl
  · rfl
  · unfold statusWrite
    split
    · exact onPortReset_stopped stopped p
    · rfl
  · exact dataRead_stopped stopped p
  · exact dataWrite_stopped stopped p _

theorem commandAt_stopped (p : Port) (code : Byte) : s.commandAt p code = none := by simp [State.commandAt, stopped]

theorem decoder_stopped (st : Station) : onAcquisitionStart st s = s ∧ (∀ ticks, onElementMeasured st ticks s = s) ∧
    onAcquisitionAbandon st s = s ∧ onQuietReached st s = s ∧ (∀ ms, onDecodeSymbol st ms s = s) ∧ onPatternEnd st s = s := by
  refine ⟨by simp [onAcquisitionStart, stopped], fun ticks => ?_, ?_, by simp [onQuietReached, stopped], fun ms => ?_,
    by simp [onPatternEnd, stopped]⟩
  · unfold onElementMeasured
    split <;> simp [stopped]
  · unfold onAcquisitionAbandon
    split <;> simp [stopped]
  · unfold onDecodeSymbol
    split <;> simp [stopped]

theorem slot_stopped (st : Station) : onPatronStep st s = s ∧ onCheckoutStep st s = s ∧ onReturnStep st s = s ∧ onRenewStep st s = s ∧
    onSecondCard st s = s ∧ onIgnoredCode st s = s ∧ onWrongCode st s = s ∧ onInactivityTimeout st s = s := by
  have none := codeToTake_stopped stopped st
  refine ⟨by rw [onPatronStep, none], by rw [onCheckoutStep, none], by rw [onReturnStep, none], by rw [onRenewStep, none],
    by rw [onSecondCard, none], by rw [onIgnoredCode, none], by rw [onWrongCode, none], by simp [onInactivityTimeout, stopped]⟩

theorem printer_stopped : onWakeComplete s = s ∧ onLinePrinted s = s ∧ onIdleTimerExpiry s = s ∧ onSettleComplete s = s := by
  refine ⟨by simp [onWakeComplete, stopped], ?_, by simp [onIdleTimerExpiry, stopped], by simp [onSettleComplete, stopped]⟩
  unfold onLinePrinted
  split <;> simp [stopped]

theorem contention_stopped : onRetryExpiry s = s ∧ onGapWon s = s ∧ onNoLine s = s ∧ onCollision s = s ∧ onBackoffEnd s = s ∧
    onJamEnd s = s ∧ onLineActivity s = s ∧ onGapCommitted s = s ∧ onRandomGeneratorStep s = s := by
  have none := seeksGap_stopped stopped
  refine ⟨by simp [onRetryExpiry, stopped], by rw [onGapWon, none], by rw [onNoLine, none], by simp [onCollision, stopped], ?_,
    by simp [onJamEnd, stopped], by rw [onLineActivity, none], by rw [onGapCommitted, none], by simp [onRandomGeneratorStep, stopped]⟩
  unfold onBackoffEnd
  split <;> simp [stopped]

theorem replies_stopped : onDataFrameSent s = s ∧ onPollSent s = s ∧ onReplyTimeout s = s ∧ onReplyDelayEnd s = s ∧ onReplySent s = s ∧
    onReplyCollision s = s := by
  have quiet : s.sendsReply = false := by simp [State.sendsReply, stopped]
  refine ⟨by simp [onDataFrameSent, stopped], by simp [onPollSent, stopped], by simp [onReplyTimeout, stopped], ?_,
    by simp [onReplySent, quiet], by simp [onReplyCollision, quiet]⟩
  unfold onReplyDelayEnd
  split <;> simp [stopped]

theorem frames_stopped (f : List Byte) : onAckFrame f s = s ∧ onBusyFrame f s = s ∧ onEndFrame f s = s ∧ onUpdateFrame f s = s ∧
    onBroadcastUpdate f s = s := by
  have deaf := hears_stopped stopped
  have still := heardActivity_stopped stopped f
  have noAck : s.acceptedAck f = none := by
    unfold State.acceptedAck
    split <;> simp [deaf]
  have noBusy : s.acceptsBusy f = false := by
    unfold State.acceptsBusy
    split <;> simp [deaf]
  have noEnd : s.acceptedEnd f = none := by
    unfold State.acceptedEnd
    split <;> simp [deaf]
  have noUpdate : s.acceptedUpdate f = none := by simp [State.acceptedUpdate, deaf]
  have noBroadcast : s.acceptedBroadcast f = none := by simp [State.acceptedBroadcast, deaf]
  refine ⟨by rw [onAckFrame, noAck, still], by rw [onBusyFrame, still]; simp [noBusy], by rw [onEndFrame, noEnd, still],
    by rw [onUpdateFrame, noUpdate, still], by rw [onBroadcastUpdate, noBroadcast, still]⟩

theorem onFindDone_stopped (p : Port) : onFindDone p s = s := by
  unfold onFindDone
  split <;> simp [stopped]

/-- A stopped part takes no event but those of its inputs, its clock and its supply (R191). -/
theorem exec_stopped {c : Instr} (inputs : c ∉ [Instr.paperOut, .paperRestored, .newMinute, .pfailRise, .pfailFall])
    (reset : ∀ cut, c ≠ .resetAssert cut) (power : ∀ cut kept, c ≠ .powerLoss cut kept) (start : ∀ a b, c ≠ .start a b) :
    exec c s = .next s := by
  cases row : commandOf c with
  | some pc =>
    obtain ⟨cmd, rule, exec_⟩ := exec_command row
    rw [exec_, runCommand_idle cmd (commandAt_stopped stopped ..)]
  | none =>
    have next {t : State} (h : t = s) : (Host.Outcome.next t : Host.Outcome State Fault Refusal) = .next s := congrArg _ h
    cases c
    case start a b => exact absurd rfl (start a b)
    case pfailRise => simp at inputs
    case pfailFall => simp at inputs
    case resetAssert cut => exact absurd rfl (reset cut)
    case powerLoss cut kept => exact absurd rfl (power cut kept)
    case paperOut => simp at inputs
    case paperRestored => simp at inputs
    case newMinute => simp at inputs
    case unknownCommand p b => exact next (dataWrite_stopped stopped p b)
    case parameterByteWrite p b => exact next (dataWrite_stopped stopped p b)
    case commandCodeTaken p b => exact next (dataWrite_stopped stopped p b)
    case resultByteRead p => exact next (dataRead_stopped stopped p)
    case disregardedAccess p cycle => exact next (busCycle_stopped stopped p cycle)
    case portReset p => exact next (onPortReset_stopped stopped p)
    case acquisitionStart st => obtain ⟨h, _, _, _, _, _⟩ := decoder_stopped stopped st; exact next h
    case elementMeasured st ticks => obtain ⟨_, h, _, _, _, _⟩ := decoder_stopped stopped st; exact next (h ticks)
    case acquisitionAbandon st => obtain ⟨_, _, h, _, _, _⟩ := decoder_stopped stopped st; exact next h
    case quietReached st => obtain ⟨_, _, _, h, _, _⟩ := decoder_stopped stopped st; exact next h
    case decodeSymbol st ms => obtain ⟨_, _, _, _, h, _⟩ := decoder_stopped stopped st; exact next (h ms)
    case patternEnd st => obtain ⟨_, _, _, _, _, h⟩ := decoder_stopped stopped st; exact next h
    case presenceSample levels => exact next (if_neg (by simp [stopped]))
    case patronStep st => obtain ⟨h, _, _, _, _, _, _, _⟩ := slot_stopped stopped st; exact next h
    case checkoutStep st => obtain ⟨_, h, _, _, _, _, _, _⟩ := slot_stopped stopped st; exact next h
    case returnStep st => obtain ⟨_, _, h, _, _, _, _, _⟩ := slot_stopped stopped st; exact next h
    case renewStep st => obtain ⟨_, _, _, h, _, _, _, _⟩ := slot_stopped stopped st; exact next h
    case secondCard st => obtain ⟨_, _, _, _, h, _, _, _⟩ := slot_stopped stopped st; exact next h
    case ignoredCode st => obtain ⟨_, _, _, _, _, h, _, _⟩ := slot_stopped stopped st; exact next h
    case wrongCodeRefusal st => obtain ⟨_, _, _, _, _, _, h, _⟩ := slot_stopped stopped st; exact next h
    case inactivityTimeout st => obtain ⟨_, _, _, _, _, _, _, h⟩ := slot_stopped stopped st; exact next h
    case findDone p => exact next (onFindDone_stopped stopped p)
    case wakeComplete => obtain ⟨h, _, _, _⟩ := printer_stopped stopped; exact next h
    case linePrinted => obtain ⟨_, h, _, _⟩ := printer_stopped stopped; exact next h
    case idleTimerExpiry => obtain ⟨_, _, h, _⟩ := printer_stopped stopped; exact next h
    case settleComplete => obtain ⟨_, _, _, h⟩ := printer_stopped stopped; exact next h
    case retryExpiry => obtain ⟨h, _, _, _, _, _, _, _, _⟩ := contention_stopped stopped; exact next h
    case gapWon => obtain ⟨_, h, _, _, _, _, _, _, _⟩ := contention_stopped stopped; exact next h
    case noLine => obtain ⟨_, _, h, _, _, _, _, _, _⟩ := contention_stopped stopped; exact next h
    case collision => obtain ⟨_, _, _, h, _, _, _, _, _⟩ := contention_stopped stopped; exact next h
    case backoffEnd => obtain ⟨_, _, _, _, h, _, _, _, _⟩ := contention_stopped stopped; exact next h
    case jamEnd => obtain ⟨_, _, _, _, _, h, _, _, _⟩ := contention_stopped stopped; exact next h
    case lineActivity => obtain ⟨_, _, _, _, _, _, h, _, _⟩ := contention_stopped stopped; exact next h
    case gapCommitted => obtain ⟨_, _, _, _, _, _, _, h, _⟩ := contention_stopped stopped; exact next h
    case randomGeneratorStep => obtain ⟨_, _, _, _, _, _, _, _, h⟩ := contention_stopped stopped; exact next h
    case dataFrameSent => obtain ⟨h, _, _, _, _, _⟩ := replies_stopped stopped; exact next h
    case pollSent => obtain ⟨_, h, _, _, _, _⟩ := replies_stopped stopped; exact next h
    case replyTimeout => obtain ⟨_, _, h, _, _, _⟩ := replies_stopped stopped; exact next h
    case replyDelayEnd => obtain ⟨_, _, _, h, _, _⟩ := replies_stopped stopped; exact next h
    case replySent => obtain ⟨_, _, _, _, h, _⟩ := replies_stopped stopped; exact next h
    case replyCollision => obtain ⟨_, _, _, _, _, h⟩ := replies_stopped stopped; exact next h
    case ackFrame f => obtain ⟨h, _, _, _, _⟩ := frames_stopped stopped f; exact next h
    case busyFrame f => obtain ⟨_, h, _, _, _⟩ := frames_stopped stopped f; exact next h
    case endFrame f => obtain ⟨_, _, h, _, _⟩ := frames_stopped stopped f; exact next h
    case updateFrame f => obtain ⟨_, _, _, h, _⟩ := frames_stopped stopped f; exact next h
    case broadcastUpdate f => obtain ⟨_, _, _, _, h⟩ := frames_stopped stopped f; exact next h
    case frameAbandoned cause => rfl
    all_goals cases row

end

/-! ### The fall of PFAIL (R37, R62, R111) -/

theorem patronStepAt_slot_other {st st' : Station} (other : st' ≠ st) (p : Port) (c : Code) (s : State) :
    (s.patronStepAt st p c).slot st' = s.slot st' := by
  have put (x : Slot) : (s.putSlot st x).slot st' = s.slot st' := State.slot_putSlot_other _ _ other
  unfold State.patronStepAt
  dsimp only
  split
  · rfl
  · split
    · rfl
    · split
      · exact put _
      · exact put _

theorem takePendingReopen_none {s : State} {st : Station} (h : (s.slot st).state = .awaitPatron → (s.slot st).reopen = none) :
    takePendingReopen st s = s := by
  unfold takePendingReopen
  split
  · rename_i state reopen
    rw [h state] at reopen
    cases reopen
  · rfl

theorem takePendingReopen_taken {s : State} {st : Station} {p : Port} {c : Code} (waits : (s.slot st).state = .awaitPatron)
    (pending : (s.slot st).reopen = some c) (owner : s.owner st = some p) : takePendingReopen st s =
      (s.putSlot st { s.slot st with
        reopen := none,
        timer := if (s.stationConfig st).timeout = 0 then none else some (s.stationConfig st).timeout }).patronStepAt st p c := by
  have ready : restartTimer st (clearReopen st s) = s.putSlot st { s.slot st with
      reopen := none,
      timer := if (s.stationConfig st).timeout = 0 then none else some (s.stationConfig st).timeout } := by
    rw [restartTimer, clearReopen, State.slot_putSlot]
    simp only [State.putSlot, PerStation.set_set]
    rfl
  rw [takePendingReopen, waits, pending]
  dsimp only
  rw [ready, patronStepOf_eq (by exact owner)]

theorem reopenFold_none {l : List Station} {s : State}
    (h : ∀ st ∈ l, (s.slot st).state = .awaitPatron → (s.slot st).reopen = none) : l.foldl (fun t st => takePendingReopen st t) s = s := by
  induction l with
  | nil => rfl
  | cons a l ih =>
    rw [List.foldl_cons, takePendingReopen_none (h a (by simp)), ih fun st m => h st (List.mem_cons_of_mem a m)]

/-- The one code that waits is taken in its station's turn, and the other slots stand. -/
theorem reopenFold_one {s : State} {st : Station} {p : Port} {c : Code} (waits : (s.slot st).state = .awaitPatron)
    (pending : (s.slot st).reopen = some c) (owner : s.owner st = some p)
    (others : ∀ st', st' ≠ st → (s.slot st').state = .awaitPatron → (s.slot st').reopen = none) :
    allStations.foldl (fun t st => takePendingReopen st t) s = (s.putSlot st { s.slot st with
        reopen := none,
        timer := if (s.stationConfig st).timeout = 0 then none else some (s.stationConfig st).timeout }).patronStepAt st p c := by
  obtain ⟨before, after, split⟩ := List.append_of_mem (mem_allStations st)
  have distinct : (before ++ st :: after).Nodup := split ▸ (by decide : allStations.Nodup)
  rw [List.nodup_append, List.nodup_cons] at distinct
  obtain ⟨_, ⟨notAfter, _⟩, apart⟩ := distinct
  rw [split, List.foldl_append, List.foldl_cons,
    reopenFold_none fun st' m => others st' fun e => apart st' m st' (by rw [e]; exact List.mem_cons_self ..) rfl,
    takePendingReopen_taken waits pending owner]
  refine reopenFold_none fun st' m => ?_
  have other : st' ≠ st := fun e => notAfter (e ▸ m)
  rw [patronStepAt_slot_other other, State.slot_putSlot_other _ _ other]
  exact others st' other

/-- Settles O6: the supply, the stopped part, and PFAIL. -/
theorem supplyAndResetEvents : Obligations.SupplyAndResetEvents := by
  unfold Obligations.SupplyAndResetEvents
  refine ⟨fun s backupKept => ?supply, fun c s stopped => ⟨?rows, ?paperOut, ?paperRestored, ?fallStopped⟩,
    fun s => ⟨rfl, fun run => ?fall⟩⟩
  case supply =>
    have cut : cutOff .between s = stopPart s := by rw [cutOff]; exact congrArg stopPart (ite_self s)
    have reset : exec (.resetAssert .between) s = .next { cutOff .between s with resetHeld := true } := rfl
    have loss : exec (.powerLoss .between backupKept) s =
        .next { cutOff .between s with mainPower := false, marker := s.marker && backupKept } := rfl
    intro halted
    exact ⟨by rw [reset, cut]; rfl, by rw [loss, cut]; rfl, fun p => rfl⟩
  case rows => exact fun inputs reset power start => exec_stopped stopped inputs reset power start
  case paperOut => exact congrArg Host.Outcome.next (if_neg (by simp [stopped]))
  case paperRestored => exact congrArg Host.Outcome.next (if_neg (by simp [stopped]))
  case fallStopped => exact congrArg Host.Outcome.next (if_neg (by simp [stopped]))
  case fall =>
    intro u
    have purged : exec .pfailFall s = .next (allStations.foldl (fun t st => takePendingReopen st t) u) := by
      have exec_ : exec .pfailFall s = .next (onPfailFall s) := rfl
      have waiting : (if s.purgeWaits then purge { s with pfail := false, purgeWaits := false } else { s with pfail := false }) = u := by
        cases waits : s.purgeWaits with
        | true => simp only [u, waits, if_true]; rfl
        | false => simp only [u, waits, Bool.false_eq_true, if_false]
      rw [exec_, onPfailFall]
      dsimp only
      rw [if_pos run, waiting]
    refine ⟨fun none => ?_, fun st p c waits pending owner others => ?_⟩
    · rw [purged, reopenFold_none (s := u) fun st _ => none st]
    · rw [purged, reopenFold_one (s := u) waits pending owner others]
      rfl

end Sys2Proof.Machine
end

section
/-! PROOF. The staff commands on the collections: ADD BLOCK, REMOVE BLOCK, SET ITEM FLAG, CLEAR ITEM FLAG (O36), RECORD PAYMENT (O35). -/

namespace Sys2Proof.Machine

/-! ### The end of a step that writes records (R38) -/

/-- What the end of a step tells goes by the ports, the arming and the number of records alone. -/
theorem highWater_congr {x y : State} (ports : x.ports = y.ports) (armed : x.armed = y.armed)
    (length : x.rm.journal.length = y.rm.journal.length) :
    (highWater x).armed = (highWater y).armed ∧ (highWater x).ports = (highWater y).ports := by
  refine ⟨by rw [highWater_armed, highWater_armed, armed, length], ?_⟩
  unfold highWater
  rw [armed, length]
  split
  · exact postStaff_ports_congr ports _
  · exact ports

theorem tellsAtEnd_highWater {u x : State} (ports : x.ports = u.ports) (armed : x.armed = u.armed) : TellsAtEnd u (highWater x) := by
  unfold TellsAtEnd
  dsimp only
  rw [endOfStep_eq, highWater_rm]
  exact highWater_congr ports armed rfl

/-- A step that changes the BLOCK LIST and writes one record. -/
theorem recorded_blocks {s v u : State} (e : Entry) (frame : v = { s with rm := { s.rm with blocks := v.rm.blocks }, ports := u.ports })
    (armed : u.armed = s.armed) :
    (highWater (writeRecord e v)).rm.journal = s.rm.journal ++ [e.record s] ∧
      (highWater (writeRecord e v)).rm.nextSeq = (s.rm.nextSeq + 1) % 65536 ∧
      (∀ b, (highWater (writeRecord e v)).blockOf b = v.blockOf b) ∧
      (highWater (writeRecord e v)).rm = { s.rm with
        journal := (highWater (writeRecord e v)).rm.journal, nextSeq := (highWater (writeRecord e v)).rm.nextSeq,
        blocks := (highWater (writeRecord e v)).rm.blocks } ∧
      highWater (writeRecord e v) = { s with
        rm := (highWater (writeRecord e v)).rm, ports := (highWater (writeRecord e v)).ports,
        armed := (highWater (writeRecord e v)).armed } ∧
      TellsAtEnd u (highWater (writeRecord e v)) := by
  have ports : v.ports = u.ports := by rw [frame]
  have armed' : v.armed = u.armed := by rw [frame, armed]
  refine ⟨?_, ?_, fun b => ?_, ?_, ?_, tellsAtEnd_highWater ports armed'⟩
  · rw [highWater_rm, writeRecord_eq, frame]; rfl
  · rw [highWater_rm, writeRecord_eq, frame]
  · rw [State.blockOf, highWater_rm]; rfl
  · rw [highWater_rm, writeRecord_eq, frame]
  · rw [highWater_frame, writeRecord_eq, frame]

/-- A step that changes the ITEM FLAG TABLE and writes one record. -/
theorem recorded_flags {s v u : State} (e : Entry) (frame : v = { s with rm := { s.rm with flags := v.rm.flags }, ports := u.ports })
    (armed : u.armed = s.armed) :
    (highWater (writeRecord e v)).rm.journal = s.rm.journal ++ [e.record s] ∧
      (highWater (writeRecord e v)).rm.nextSeq = (s.rm.nextSeq + 1) % 65536 ∧
      (∀ item, (highWater (writeRecord e v)).flagOf item = v.flagOf item) ∧
      (highWater (writeRecord e v)).rm = { s.rm with
        journal := (highWater (writeRecord e v)).rm.journal, nextSeq := (highWater (writeRecord e v)).rm.nextSeq,
        flags := (highWater (writeRecord e v)).rm.flags } ∧
      highWater (writeRecord e v) = { s with
        rm := (highWater (writeRecord e v)).rm, ports := (highWater (writeRecord e v)).ports,
        armed := (highWater (writeRecord e v)).armed } ∧
      TellsAtEnd u (highWater (writeRecord e v)) := by
  have ports : v.ports = u.ports := by rw [frame]
  have armed' : v.armed = u.armed := by rw [frame, armed]
  refine ⟨?_, ?_, fun b => ?_, ?_, ?_, tellsAtEnd_highWater ports armed'⟩
  · rw [highWater_rm, writeRecord_eq, frame]; rfl
  · rw [highWater_rm, writeRecord_eq, frame]
  · rw [State.flagOf, highWater_rm]; rfl
  · rw [highWater_rm, writeRecord_eq, frame]
  · rw [highWater_frame, writeRecord_eq, frame]

/-! ### The answers of the four commands, by their parameters -/

theorem blockReasonOfByte_code (r : BlockReason) : blockReasonOfByte (BlockReason.code r) = some r := by cases r <;> rfl

theorem blockReasonOfByte_none {r : Byte} (h : r = 0x00#8 ∨ 6 < r.toNat) : blockReasonOfByte r = none := by
  have other : ∀ k : Byte, 0 < k.toNat → k.toNat ≤ 6 → r ≠ k := fun k pos le same => by
    rcases h with zero | above
    · rw [← same, zero] at pos; simp at pos
    · rw [same] at above; omega
  simp [blockReasonOfByte, other]

theorem itemFlagOfByte_outside {f : Byte} (h : f = 0x00#8 ∨ 4 < f.toNat) : itemFlagOfByte f = none := by
  have other : ∀ k : Byte, 0 < k.toNat → k.toNat ≤ 4 → f ≠ k := fun k pos le same => by
    rcases h with zero | above
    · rw [← same, zero] at pos; simp at pos
    · rw [same] at above; omega
  simp [itemFlagOfByte, other]

theorem addBlock_bad {b : Code} (bad : borrowerValid b = false) (p : Port) (r : Byte) (s : State) :
    addBlock p (codeBytes b ++ [r]) s = refuse .badCode s := by
  simp [addBlock, bad]

theorem addBlock_valid {b : Code} (valid : borrowerValid b = true) (p : Port) (r : Byte) (s : State) :
    addBlock p (codeBytes b ++ [r]) s = match blockReasonOfByte r with
      | none => refuse .badParameter s
      | some reason => ifPowerGood s <| if (s.blockOf b).isSome then refuse .alreadyExists s
        else if 1024 ≤ s.rm.blocks.length then refuse .tableFull s
        else ifRoom 1 s (done [] (addBlockStep p b reason s)) := by
  have byte : byteAt (codeBytes b ++ [r]) 7 = r := rfl
  unfold addBlock
  dsimp only
  rw [codeAt_codeBytes, if_neg (by simp [valid]), byte]
  rfl

theorem removeBlock_codeBytes (p : Port) (b : Code) (s : State) : removeBlock p (codeBytes b) s =
    if borrowerValid b = false then refuse .badCode s
    else ifPowerGood s <| if (s.blockOf b).isNone then refuse .notFound s else ifRoom 1 s (done [] (removeBlockStep p b s)) := by
  unfold removeBlock
  rw [codeAt_codeBytes_alone]

theorem setItemFlag_bad {item : Code} (bad : itemValid item = false) (p : Port) (f : Byte) (b : Code) (s : State) :
    setItemFlag p (codeBytes item ++ [f] ++ codeBytes b) s = refuse .badCode s := by
  rw [List.append_assoc]
  simp [setItemFlag, bad]

theorem setItemFlag_valid {item : Code} (valid : itemValid item = true) (p : Port) (f : Byte) (b : Code) (s : State) :
    setItemFlag p (codeBytes item ++ [f] ++ codeBytes b) s = match itemFlagOfByte f with
      | none => refuse .badParameter s
      | some .reserved =>
        if b = BitVec.allOnes 56 then refuse .badParameter s
        else if borrowerValid b = false then refuse .badCode s else setItemFlagChecked p item .reserved (some b) s
      | some flag => setItemFlagChecked p item flag none s := by
  have key : codeAt (codeBytes item ++ [f] ++ codeBytes b) 0 = item := by rw [List.append_assoc, codeAt_codeBytes]
  have reserver : codeAt (codeBytes item ++ [f] ++ codeBytes b) 8 = b := codeAt_codeBytes_alone b
  have byte : byteAt (codeBytes item ++ [f] ++ codeBytes b) 7 = f := rfl
  unfold setItemFlag
  dsimp only
  rw [key, reserver, byte, if_neg (by simp [valid])] <;> rfl

/-- A flag whose reserver, if it needs one, is valid, goes on to the checks that follow those of the codes (R56, R195). -/
theorem setItemFlag_flag {item b : Code} {flag : ItemFlag} (valid : itemValid item = true)
    (reserver : flag = .reserved → borrowerValid b = true) (p : Port) (s : State) :
    setItemFlag p (codeBytes item ++ [ItemFlag.code flag] ++ codeBytes b) s =
      setItemFlagChecked p item flag (if flag = .reserved then some b else none) s := by
  rw [setItemFlag_valid valid, itemFlagOfByte_code]
  cases flag with
  | reserved =>
    have good := reserver rfl
    have present : b ≠ BitVec.allOnes 56 := by
      rintro rfl
      revert good
      decide
    dsimp only
    rw [if_neg present, if_neg (by simp [good]), if_pos rfl]
  | _ => rfl

theorem clearItemFlag_codeBytes (p : Port) (item : Code) (s : State) : clearItemFlag p (codeBytes item) s =
    if itemValid item = false then refuse .badCode s
    else ifPowerGood s <|
      if (s.flagOf item).isNone then refuse .notFound s else ifRoom 1 s (done [] (clearItemFlagStep p item s)) := by
  unfold clearItemFlag
  rw [codeAt_codeBytes_alone]

/-! ### The steps of the four commands -/

section
variable (p : Port) (b item : Code) (s : State)

theorem addBlockStep_spec {b : Code} {s : State} (reason : BlockReason) (new : s.blockOf b = none) :
    let t := addBlockStep p b reason s
    t.rm.journal = s.rm.journal ++ [⟨s.rm.nextSeq, .blockSet, s.clock.day, s.clock.minute, none, p, {}, some b, none, none, none,
      some (BlockReason.code reason).toNat, false⟩] ∧
    t.rm.nextSeq = (s.rm.nextSeq + 1) % 65536 ∧ t.blockOf b = some ⟨b, reason, .staff, s.clock.day⟩ ∧
    (∀ other, other ≠ b → t.blockOf other = s.blockOf other) ∧
    t.rm = { s.rm with journal := t.rm.journal, nextSeq := t.rm.nextSeq, blocks := t.rm.blocks } ∧
    t = { s with rm := t.rm, ports := t.ports, armed := t.armed } ∧
    TellsAtEnd (moveSearches .blocks (insertedAt (rank Block.key b.toNat s.rm.blocks)) s) t := by
  have frame := putBlock_frame ⟨b, reason, .staff, s.clock.day⟩ s
  rw [if_pos new] at frame
  have step := recorded_blocks
    { kind := .blockSet, port := p, borrower := some b, amount := some (BlockReason.code reason).toNat } frame rfl
  obtain ⟨journal, seq, lookup, rm, rest, told⟩ := step
  exact ⟨journal, seq, (lookup b).trans (putBlock_blockOf _ s),
    fun other ne => (lookup other).trans (putBlock_blockOf_other ne s), rm, rest, told⟩

theorem removeBlockStep_spec {b : Code} {s : State} (listed : (s.blockOf b).isSome = true) :
    let t := removeBlockStep p b s
    t.rm.journal = s.rm.journal ++ [⟨s.rm.nextSeq, .blockClear, s.clock.day, s.clock.minute, none, p, {}, some b, none, none, none,
      none, false⟩] ∧
    t.rm.nextSeq = (s.rm.nextSeq + 1) % 65536 ∧ t.blockOf b = none ∧
    (∀ other, other ≠ b → t.blockOf other = s.blockOf other) ∧
    t.rm = { s.rm with journal := t.rm.journal, nextSeq := t.rm.nextSeq, blocks := t.rm.blocks } ∧
    t = { s with rm := t.rm, ports := t.ports, armed := t.armed } ∧
    TellsAtEnd (moveSearches .blocks (removedAt (rank Block.key b.toNat s.rm.blocks)) s) t := by
  have frame := removeBlockOf_frame b s
  rw [if_pos (Option.isSome_iff_ne_none.mp listed)] at frame
  obtain ⟨journal, seq, lookup, rm, rest, told⟩ := recorded_blocks { kind := .blockClear, port := p, borrower := some b } frame rfl
  exact ⟨journal, seq, (lookup b).trans (removeBlockOf_blockOf b s),
    fun other ne => (lookup other).trans (removeBlockOf_blockOf_other ne s), rm, rest, told⟩

theorem setItemFlagStep_spec (flag : ItemFlag) (reserver : Option Code) :
    let t := setItemFlagStep p item flag reserver s
    t.rm.journal = s.rm.journal ++ [⟨s.rm.nextSeq, .flagSet, s.clock.day, s.clock.minute, none, p, {}, reserver, some item, none,
      none, some (ItemFlag.code flag).toNat, false⟩] ∧
    t.rm.nextSeq = (s.rm.nextSeq + 1) % 65536 ∧ t.flagOf item = some ⟨item, flag, reserver, s.clock.day⟩ ∧
    (∀ other, other ≠ item → t.flagOf other = s.flagOf other) ∧
    t.rm = { s.rm with journal := t.rm.journal, nextSeq := t.rm.nextSeq, flags := t.rm.flags } ∧
    t = { s with rm := t.rm, ports := t.ports, armed := t.armed } ∧
    TellsAtEnd (if (s.flagOf item).isSome then s else
      moveSearches .flags (insertedAt (rank FlagEntry.key item.toNat s.rm.flags)) s) t := by
  have frame := putFlag_frame ⟨item, flag, reserver, s.clock.day⟩ s
  have moved : (if s.flagOf item = none then moveSearches .flags (insertedAt (rank FlagEntry.key item.toNat s.rm.flags)) s else s) =
      if (s.flagOf item).isSome then s else moveSearches .flags (insertedAt (rank FlagEntry.key item.toNat s.rm.flags)) s := by
    cases s.flagOf item <;> rfl
  have armed : (if (s.flagOf item).isSome then s else
      moveSearches .flags (insertedAt (rank FlagEntry.key item.toNat s.rm.flags)) s).armed = s.armed := by
    split <;> rfl
  have step := recorded_flags (u := if (s.flagOf item).isSome then s else
      moveSearches .flags (insertedAt (rank FlagEntry.key item.toNat s.rm.flags)) s)
    { kind := .flagSet, port := p, item := some item, borrower := reserver, amount := some (ItemFlag.code flag).toNat }
    (by rw [← moved]; exact frame) armed
  obtain ⟨journal, seq, lookup, rm, rest, told⟩ := step
  exact ⟨journal, seq, (lookup item).trans (putFlag_flagOf _ s),
    fun other ne => (lookup other).trans (putFlag_flagOf_other ne s), rm, rest, told⟩

theorem clearItemFlagStep_spec {item : Code} {s : State} (flagged : (s.flagOf item).isSome = true) :
    let t := clearItemFlagStep p item s
    t.rm.journal = s.rm.journal ++ [⟨s.rm.nextSeq, .flagClear, s.clock.day, s.clock.minute, none, p, {}, none, some item, none, none,
      none, false⟩] ∧
    t.rm.nextSeq = (s.rm.nextSeq + 1) % 65536 ∧ t.flagOf item = none ∧
    (∀ other, other ≠ item → t.flagOf other = s.flagOf other) ∧
    t.rm = { s.rm with journal := t.rm.journal, nextSeq := t.rm.nextSeq, flags := t.rm.flags } ∧
    t = { s with rm := t.rm, ports := t.ports, armed := t.armed } ∧
    TellsAtEnd (moveSearches .flags (removedAt (rank FlagEntry.key item.toNat s.rm.flags)) s) t := by
  have frame := removeFlagOf_frame item s
  rw [if_pos (Option.isSome_iff_ne_none.mp flagged)] at frame
  obtain ⟨journal, seq, lookup, rm, rest, told⟩ := recorded_flags { kind := .flagClear, port := p, item := some item } frame rfl
  exact ⟨journal, seq, (lookup item).trans (removeFlagOf_flagOf item s),
    fun other ne => (lookup other).trans (removeFlagOf_flagOf_other ne s), rm, rest, told⟩

end

/-- Settles O36: each command's checks in their order, and its step. -/
theorem blockAndFlagCommands : Obligations.BlockAndFlagCommands := by
  unfold Obligations.BlockAndFlagCommands
  refine ⟨fun p b s staff => ⟨fun r h => ?addBlock, fun h => ?removeBlock⟩,
    fun p item b s staff => ⟨fun f h => ?setFlag, fun h => ?clearFlag⟩⟩
  case addBlock =>
    refine ⟨fun bad => h.answers addBlock (.inr staff) (addBlock_bad bad p r s), fun valid => ⟨fun out => ?_, ?_⟩⟩
    · have rule := addBlock_valid valid p r s
      rw [blockReasonOfByte_none out] at rule
      exact h.answers addBlock (.inr staff) rule
    · rintro reason rfl
      have rule := addBlock_valid valid p (BlockReason.code reason) s
      rw [blockReasonOfByte_code] at rule
      refine ⟨fun high => h.answers addBlock (.inr staff) (rule.trans (ifPowerGood_high high _)), fun low => ?_⟩
      replace rule := rule.trans (ifPowerGood_low low _)
      refine ⟨fun known => h.answers addBlock (.inr staff) (rule.trans (if_pos known)), fun new => ?_⟩
      rw [if_neg (by simp [new])] at rule
      refine ⟨fun full => h.answers addBlock (.inr staff) (rule.trans (if_pos full)), fun space => ?_⟩
      rw [if_neg (Nat.not_le.mpr space)] at rule
      refine ⟨fun full => h.answers addBlock (.inr staff) (rule.trans (ifRoom_full (by omega) _)), fun room => ?_⟩
      exact ⟨_, h.answers addBlock (.inr staff) (rule.trans (ifRoom_room (by omega) _)), addBlockStep_spec p reason new⟩
  case removeBlock =>
    have rule := removeBlock_codeBytes p b s
    refine ⟨fun bad => h.answers removeBlock (.inr staff) (rule.trans (if_pos bad)), fun valid => ?_⟩
    rw [if_neg (by simp [valid])] at rule
    refine ⟨fun high => h.answers removeBlock (.inr staff) (rule.trans (ifPowerGood_high high _)), fun low => ?_⟩
    replace rule := rule.trans (ifPowerGood_low low _)
    refine ⟨fun absent => h.answers removeBlock (.inr staff) (rule.trans (if_pos (by simp [absent]))), fun listed => ?_⟩
    rw [if_neg (by simp [Option.isSome_iff_ne_none.mp listed])] at rule
    refine ⟨fun full => h.answers removeBlock (.inr staff) (rule.trans (ifRoom_full (by omega) _)), fun room => ?_⟩
    exact ⟨_, h.answers removeBlock (.inr staff) (rule.trans (ifRoom_room (by omega) _)), removeBlockStep_spec p listed⟩
  case setFlag =>
    refine ⟨fun bad => h.answers setItemFlag (.inr staff) (setItemFlag_bad bad p f b s), fun valid =>
      ⟨fun out => ?outside, fun reserved absent => ?absent, fun reserved present bad => ?badReserver, ?flag⟩⟩
    case outside =>
      have rule := setItemFlag_valid valid p f b s
      rw [itemFlagOfByte_outside out] at rule
      exact h.answers setItemFlag (.inr staff) rule
    case absent =>
      subst reserved
      exact h.answers setItemFlag (.inr staff) ((setItemFlag_valid valid p 0x01#8 b s).trans (if_pos absent))
    case badReserver =>
      subst reserved
      have rule := (setItemFlag_valid valid p 0x01#8 b s).trans (if_neg present)
      exact h.answers setItemFlag (.inr staff) (rule.trans (if_pos bad))
    case flag =>
      rintro flag rfl reserver
      have rule := setItemFlag_flag valid reserver p s
      refine ⟨fun high => h.answers setItemFlag (.inr staff) (rule.trans (ifPowerGood_high high _)), fun low => ?_⟩
      replace rule := rule.trans (ifPowerGood_low low _)
      refine ⟨fun new full => h.answers setItemFlag (.inr staff) (rule.trans (if_pos ⟨by simp [new], full⟩)), fun space => ?_⟩
      have fits : ¬ ((s.flagOf item).isNone = true ∧ Config.flagsMax ≤ s.rm.flags.length) := by
        rintro ⟨new, full⟩
        rcases space with known | space
        · simp [Option.isNone_iff_eq_none.mp new] at known
        · exact absurd full (Nat.not_le.mpr space)
      rw [if_neg fits] at rule
      refine ⟨fun full => h.answers setItemFlag (.inr staff) (rule.trans (ifRoom_full (by omega) _)), fun room => ?_⟩
      exact ⟨_, h.answers setItemFlag (.inr staff) (rule.trans (ifRoom_room (by omega) _)), setItemFlagStep_spec p item s flag _⟩
  case clearFlag =>
    have rule := clearItemFlag_codeBytes p item s
    refine ⟨fun bad => h.answers clearItemFlag (.inr staff) (rule.trans (if_pos bad)), fun valid => ?_⟩
    rw [if_neg (by simp [valid])] at rule
    refine ⟨fun high => h.answers clearItemFlag (.inr staff) (rule.trans (ifPowerGood_high high _)), fun low => ?_⟩
    replace rule := rule.trans (ifPowerGood_low low _)
    refine ⟨fun absent => h.answers clearItemFlag (.inr staff) (rule.trans (if_pos (by simp [absent]))), fun flagged => ?_⟩
    rw [if_neg (by simp [Option.isSome_iff_ne_none.mp flagged])] at rule
    refine ⟨fun full => h.answers clearItemFlag (.inr staff) (rule.trans (ifRoom_full (by omega) _)), fun room => ?_⟩
    exact ⟨_, h.answers clearItemFlag (.inr staff) (rule.trans (ifRoom_room (by omega) _)), clearItemFlagStep_spec p flagged⟩

end Sys2Proof.Machine
end

section
/-! PROOF. A FINE or PAYMENT with the borrower's balance, and the threshold test that follows it (5.4, 5.5): the layer of O28, O30, O35. RECORD PAYMENT (O35). -/

namespace Sys2Proof.Machine

/-! ### The BALANCE TABLE after a charge (R89, R90) -/

section
variable (f : Nat → Nat) (b : Code) (s : State)

theorem balancesCharged_find_same : (s.balancesCharged b f).find? (fun x => x.borrower == b) =
    if s.tracks b then some ⟨b, f (s.balanceOf b)⟩ else none := by
  have kept : ((fun x => x.borrower == b) ∘ fun x : Balance => if x.borrower = b then ⟨b, f x.amount⟩ else x) =
      fun x => x.borrower == b := by
    funext x
    by_cases h : x.borrower = b <;> simp [h]
  unfold State.balancesCharged State.tracks State.balanceOf
  cases entry : s.balanceEntry b with
  | some x =>
    have owner : x.borrower = b := by simpa using List.find?_some entry
    rw [if_pos (Option.isSome_some), List.find?_map, kept, show s.rm.balances.find? (fun x => x.borrower == b) = some x from entry]
    simp [owner]
  | none =>
    have absent : s.rm.balances.find? (fun x => x.borrower == b) = none := entry
    by_cases room : s.rm.balances.length < 256 <;> simp [room, absent, Config.balancesMax]

theorem balancesCharged_find_other {other : Code} (ne : other ≠ b) :
    (s.balancesCharged b f).find? (fun x => x.borrower == other) = s.balanceEntry other := by
  have kept : ((fun x => x.borrower == other) ∘ fun x : Balance => if x.borrower = b then ⟨b, f x.amount⟩ else x) =
      fun x => x.borrower == other := by
    funext x
    by_cases h : x.borrower = b <;> simp [h]
  unfold State.balancesCharged
  split
  · rw [List.find?_map, kept]
    cases entry : s.rm.balances.find? (fun x => x.borrower == other) with
    | none => exact entry.symm
    | some x =>
      have owner : x.borrower = other := by simpa using List.find?_some entry
      simp [owner, ne, State.balanceEntry, entry]
  · split
    · simp [State.balanceEntry, Ne.symm ne]
    · rfl

variable {f b s}

theorem balanceOf_charged {u : State} (balances : u.rm.balances = s.balancesCharged b f) :
    u.balanceOf b = if s.tracks b then f (s.balanceOf b) else s.balanceOf b := by
  rw [State.balanceOf, State.balanceEntry, balances, balancesCharged_find_same]
  by_cases tracked : s.tracks b = true
  · simp [tracked]
  · have absent : s.balanceEntry b = none := by
      rw [State.tracks, Bool.or_eq_true, not_or] at tracked
      exact Option.not_isSome_iff_eq_none.mp tracked.1
    simp [tracked, State.balanceOf, absent]

theorem balanceOf_charged_other {u : State} (balances : u.rm.balances = s.balancesCharged b f) {other : Code} (ne : other ≠ b) :
    u.balanceOf other = s.balanceOf other := by
  rw [State.balanceOf, State.balanceEntry, balances, balancesCharged_find_other f b s ne]
  rfl

end

/-! ### The threshold test (R49, R52, R92) -/

theorem testCallsFor_eq (s : State) (b : Code) : s.testCallsFor b (s.balanceOf b) = match s.thresholdTest b with
    | .nothing => none
    | .request => some .blockSet
    | .lift => some .blockClear := by
  unfold State.testCallsFor State.thresholdTest State.atThreshold
  cases s.blockOf b with
  | none => dsimp only; split <;> rfl
  | some x => dsimp only; split <;> rfl

theorem testRecords_eq (s : State) (b : Code) :
    s.testRecords b = if (s.testCallsFor b (s.balanceOf b)).isSome then 1 else 0 := by
  rw [testCallsFor_eq, State.testRecords]
  cases s.thresholdTest b <;> rfl

section
variable {s u : State} (blocks : u.rm.blocks = s.rm.blocks) (config : u.config = s.config) (clock : u.clock = s.clock)
  (ports : u.ports = s.ports) (b : Code) (n : Nat)

include blocks config in
theorem testCallsFor_congr : u.testCallsFor b n = s.testCallsFor b n := by
  unfold State.testCallsFor State.blockOf
  rw [blocks, config]

include blocks config clock in
theorem blockRecords_congr (seq : Nat) (st : Option Station) (p : Port) :
    u.blockRecords seq st p b n = s.blockRecords seq st p b n := by
  unfold State.blockRecords
  rw [testCallsFor_congr blocks config, blocks, clock]

include blocks config clock in
theorem blocksFollowTest_congr {t : State} : BlocksFollowTest u t b n ↔ BlocksFollowTest s t b n := by
  have lookup : ∀ c, u.blockOf c = s.blockOf c := fun c => by rw [State.blockOf, blocks]; rfl
  unfold BlocksFollowTest
  rw [testCallsFor_congr blocks config, blocks, clock]
  simp only [lookup]

include blocks config ports in
theorem testedPorts_congr : (u.testedPorts b n).ports = (s.testedPorts b n).ports := by
  unfold State.testedPorts
  rw [testCallsFor_congr blocks config, blocks]
  split
  · split
    · simp only [moveSearches, ports]
    · exact postStaff_ports_congr ports _
  · simp only [moveSearches, ports]
  · exact ports

end

theorem testedPorts_armed (s : State) (b : Code) (n : Nat) : (s.testedPorts b n).armed = s.armed := by
  unfold State.testedPorts
  split
  · split
    · rfl
    · rw [(postStaff_same _ s).eq]
  · rfl
  · rfl

/-- What a threshold test leaves, with the ports of `v` (R49, R52, R92). -/
structure Tested (st : Option Station) (p : Port) (b : Code) (s t : State) : Prop where
  journal : t.rm.journal = s.rm.journal ++ s.blockRecords s.rm.nextSeq st p b (s.balanceOf b)
  blocks : BlocksFollowTest s t b (s.balanceOf b)
  seq : t.rm.nextSeq = (s.rm.nextSeq + (t.rm.journal.length - s.rm.journal.length)) % 65536
  rm : t.rm = { s.rm with journal := t.rm.journal, nextSeq := t.rm.nextSeq, blocks := t.rm.blocks }
  rest : t = { s with rm := t.rm, ports := (s.testedPorts b (s.balanceOf b)).ports }

theorem tested_runTest (st : Option Station) (p : Port) (b : Code) {s : State} (seq : s.rm.nextSeq < 65536) :
    Tested st p b s (runTest st p b s) := by
  have calls := testCallsFor_eq s b
  unfold runTest
  cases act : s.thresholdTest b with
  | nothing =>
    rw [act] at calls
    dsimp only at calls ⊢
    refine ⟨by simp [State.blockRecords, calls], ⟨fun _ _ => rfl, by rw [calls]⟩, by simp [Nat.mod_eq_of_lt seq], rfl, ?_⟩
    simp [State.testedPorts, calls]
  | request =>
    have new : s.blockOf b = none := by
      unfold State.thresholdTest at act
      split at act
      · assumption
      · split at act <;> cases act
    rw [act] at calls
    dsimp only at calls ⊢
    unfold requestBlock
    by_cases room : s.rm.blocks.length < 1024
    · have frame := putBlock_frame ⟨b, .localFines, .localLogic, s.clock.day⟩ s
      rw [if_pos new] at frame
      have lookup := putBlock_blockOf ⟨b, .localFines, .localLogic, s.clock.day⟩ s
      have others : ∀ other, other ≠ b → (putBlock ⟨b, .localFines, .localLogic, s.clock.day⟩ s).blockOf other = s.blockOf other :=
        fun other ne => putBlock_blockOf_other ne s
      rw [if_pos (show s.rm.blocks.length < Config.blocksMax from room)]
      generalize putBlock ⟨b, .localFines, .localLogic, s.clock.day⟩ s = v at frame lookup others
      rw [writeRecord_eq]
      refine ⟨?_, ⟨others, by rw [calls]; dsimp only; rw [if_pos room]; exact lookup⟩, ?_, ?_, ?_⟩
      · rw [State.blockRecords, calls]; dsimp only; rw [if_pos room, frame]; rfl
      · rw [frame]; simp
      · rw [frame]
      · rw [State.testedPorts, calls]; dsimp only; rw [if_pos room, frame]; rfl
    · have same := (postStaff_same { kind := .blockListFull, code := some b } s).eq
      have rm : (postStaff { kind := .blockListFull, code := some b } s).rm = s.rm := by rw [same]
      rw [if_neg (show ¬ s.rm.blocks.length < Config.blocksMax from room)]
      refine ⟨?_, ⟨fun other _ => by rw [State.blockOf, State.blockOf, rm], ?_⟩, ?_, ?_, ?_⟩
      · rw [State.blockRecords, calls]; dsimp only; rw [if_neg room, List.append_nil, rm]
      · rw [calls]; dsimp only; rw [if_neg room, State.blockOf, rm]; exact new
      · rw [rm]; simp [Nat.mod_eq_of_lt seq]
      · rw [rm]
      · rw [State.testedPorts, calls]; dsimp only; rw [if_neg room, rm]; exact same
  | lift =>
    have listed : s.blockOf b ≠ none := by
      intro none
      rw [State.thresholdTest, none] at act
      dsimp only at act
      split at act <;> cases act
    rw [act] at calls
    dsimp only at calls ⊢
    have frame := removeBlockOf_frame b s
    rw [if_pos listed] at frame
    have lookup := removeBlockOf_blockOf b s
    have others : ∀ other, other ≠ b → (removeBlockOf b s).blockOf other = s.blockOf other :=
      fun other ne => removeBlockOf_blockOf_other ne s
    unfold liftBlock
    generalize removeBlockOf b s = v at frame lookup others
    rw [writeRecord_eq]
    refine ⟨?_, ⟨others, by rw [calls]; exact lookup⟩, ?_, ?_, ?_⟩
    · rw [State.blockRecords, calls, frame]; rfl
    · rw [frame]; simp
    · rw [frame]
    · rw [State.testedPorts, calls, frame]

/-! ### A FINE or PAYMENT with the test that follows it (R90, R93) -/

/-- A borrower's balance after a charge, which an UNTRACKED one leaves (R90). -/
def State.balanceAfter (s : State) (b : Code) (f : Nat → Nat) : Nat := if s.tracks b then f (s.balanceOf b) else s.balanceOf b

/-- What a money record `r` of a borrower leaves with the test that follows it (R89, R90, R92, R93). -/
structure Charged (st : Option Station) (p : Port) (b : Code) (f : Nat → Nat) (r : Record) (s t : State) : Prop where
  journal : t.rm.journal = s.rm.journal ++ r :: s.blockRecords ((s.rm.nextSeq + 1) % 65536) st p b (s.balanceAfter b f)
  balance : t.balanceOf b = s.balanceAfter b f
  others : ∀ other, other ≠ b → t.balanceOf other = s.balanceOf other
  blocks : BlocksFollowTest s t b (s.balanceAfter b f)
  rm : t.rm = { s.rm with
    journal := t.rm.journal, blocks := t.rm.blocks, balances := s.balancesCharged b f,
    nextSeq := (s.rm.nextSeq + (t.rm.journal.length - s.rm.journal.length)) % 65536 }
  rest : t = { s with rm := t.rm, ports := (s.testedPorts b (s.balanceAfter b f)).ports }

theorem charged_writeMoney (st : Option Station) (p : Port) (e : Entry) (b : Code) (cents : Nat) (s : State) :
    Charged st p b (applyMoney e.kind cents) ((e.ofMoney b cents s).record s) s (runTest st p b (writeMoney e b cents s)) := by
  have paid := writeMoney_eq e b cents s
  rw [updateBalance_balances] at paid
  have balances : (writeMoney e b cents s).rm.balances = s.balancesCharged b (applyMoney e.kind cents) := by rw [paid]
  have balance : (writeMoney e b cents s).balanceOf b = s.balanceAfter b (applyMoney e.kind cents) := balanceOf_charged balances
  have test := tested_runTest st p b (s := writeMoney e b cents s) (by rw [paid]; exact Nat.mod_lt _ (by decide))
  generalize runTest st p b (writeMoney e b cents s) = t at test
  obtain ⟨journal, blocks, seq, rm, rest⟩ := test
  rw [balance] at journal blocks rest
  rw [blockRecords_congr (s := s) (by rw [paid]) (by rw [paid]) (by rw [paid])] at journal
  rw [blocksFollowTest_congr (s := s) (by rw [paid]) (by rw [paid]) (by rw [paid])] at blocks
  rw [testedPorts_congr (s := s) (by rw [paid]) (by rw [paid]) (by rw [paid])] at rest
  have kept : t.rm.balances = s.balancesCharged b (applyMoney e.kind cents) := by rw [rm]; exact balances
  have length : t.rm.journal.length = s.rm.journal.length + 1 +
      (s.blockRecords ((s.rm.nextSeq + 1) % 65536) st p b (s.balanceAfter b (applyMoney e.kind cents))).length := by
    rw [journal, paid]; simp; omega
  refine ⟨?_, balanceOf_charged kept, fun other ne => balanceOf_charged_other kept ne, blocks, ?_, ?_⟩
  · rw [journal, paid]; simp
  · have seq' : t.rm.nextSeq = (s.rm.nextSeq + (t.rm.journal.length - s.rm.journal.length)) % 65536 := by
      rw [seq, paid]
      simp only [List.length_append, List.length_singleton]
      omega
    rw [← seq']
    exact rm.trans (by rw [paid])
  · rw [rest, paid]

/-! ### RECORD PAYMENT (R95) -/

theorem recordPayment_params (p : Port) (b : Code) (c2 c1 c0 : Byte) (s : State) :
    let cents := c2.toNat * 65536 + c1.toNat * 256 + c0.toNat
    recordPayment p (codeBytes b ++ [c2, c1, c0]) s =
      if borrowerValid b = false then refuse .badCode s
      else if cents = 0 ∨ 999999 < cents then refuse .badParameter s
      else ifPowerGood s <| ifRoom (s.paymentRecords p b cents) s <|
        done (if s.tracks b then be24 ((paymentStep p b cents s).balanceOf b) else [0xFF#8, 0xFF#8, 0xFF#8]) (paymentStep p b cents s) := by
  have cents : number (slice (codeBytes b ++ [c2, c1, c0]) 7 3) = c2.toNat * 65536 + c1.toNat * 256 + c0.toNat := by
    rw [show slice (codeBytes b ++ [c2, c1, c0]) 7 3 = [c2, c1, c0] from rfl]
    simp [number]
    omega
  unfold recordPayment
  dsimp only
  rw [codeAt_codeBytes, cents]
  rfl

/-- The step of RECORD PAYMENT leaves what the payment and the test of its borrower leave. -/
theorem paymentStep_spec (p : Port) (b : Code) (cents : Nat) (s : State) :
    let after := if s.tracks b then s.balanceOf b - cents else s.balanceOf b
    let t := paymentStep p b cents s
    t.rm.journal = s.rm.journal ++
      ⟨s.rm.nextSeq, .payment, s.clock.day, s.clock.minute, none, p, { untracked := !s.tracks b }, some b, none, none, none,
        some cents, false⟩ :: s.blockRecords ((s.rm.nextSeq + 1) % 65536) none p b after ∧
    t.balanceOf b = after ∧ (∀ other, other ≠ b → t.balanceOf other = s.balanceOf other) ∧
    BlocksFollowTest s t b after ∧
    t.rm = { s.rm with
      journal := t.rm.journal, blocks := t.rm.blocks, balances := s.balancesCharged b (fun x => x - cents),
      nextSeq := (s.rm.nextSeq + (t.rm.journal.length - s.rm.journal.length)) % 65536 } ∧
    t = { s with rm := t.rm, ports := t.ports, armed := t.armed } ∧ TellsAtEnd (s.testedPorts b after) t := by
  intro after
  have charged := charged_writeMoney none p { kind := .payment, port := p } b cents s
  change Charged _ _ _ _ _ _ (runTest none p b (payMoney p b cents s)) at charged
  unfold paymentStep
  generalize runTest none p b (payMoney p b cents s) = t at charged
  obtain ⟨journal, balance, others, ⟨otherBlocks, block⟩, rm, rest⟩ := charged
  dsimp only
  have balanceOf : ∀ c, (highWater t).balanceOf c = t.balanceOf c := fun c => by
    rw [State.balanceOf, State.balanceEntry, highWater_rm]; rfl
  have blockOf : ∀ c, (highWater t).blockOf c = t.blockOf c := fun c => by rw [State.blockOf, highWater_rm]; rfl
  refine ⟨by rw [highWater_rm]; exact journal, (balanceOf b).trans balance, fun other ne => (balanceOf other).trans (others other ne),
    ⟨fun other ne => (blockOf other).trans (otherBlocks other ne), (blockOf b).trans block⟩, by rw [highWater_rm]; exact rm,
    ?_, tellsAtEnd_highWater (by rw [rest]; rfl) ?_⟩
  · rw [highWater_frame, rest]
  · rw [rest, testedPorts_armed]

/-- Settles O35: the checks in their order, and the step. -/
theorem recordPaymentPaysTheBalance : Obligations.RecordPaymentPaysTheBalance := by
  unfold Obligations.RecordPaymentPaysTheBalance
  intro p b c2 c1 c0 s h staff cents after needed
  have rule := recordPayment_params p b c2 c1 c0 s
  dsimp only at rule
  have records : s.paymentRecords p b cents = needed := by
    have paid := writeMoney_eq { kind := .payment, port := p } b cents s
    rw [updateBalance_balances] at paid
    change payMoney p b cents s = _ at paid
    have balances : (payMoney p b cents s).rm.balances = s.balancesCharged b (fun x => x - cents) := by rw [paid]; rfl
    have balance : (payMoney p b cents s).balanceOf b = after := balanceOf_charged balances
    rw [State.paymentRecords, testRecords_eq, balance,
      testCallsFor_congr (s := s) (by rw [paid]) (by rw [paid])]
  refine ⟨fun bad => h.answers recordPayment (.inr staff) (rule.trans (if_pos bad)), fun valid => ?_⟩
  rw [if_neg (by simp [valid])] at rule
  refine ⟨fun out => h.answers recordPayment (.inr staff) (rule.trans (if_pos out)), fun some_ bound => ?_⟩
  rw [if_neg (not_or.mpr ⟨some_, Nat.not_lt.mpr bound⟩)] at rule
  refine ⟨fun high => h.answers recordPayment (.inr staff) (rule.trans (ifPowerGood_high high _)), fun low full => ?_,
    fun low room => ?_⟩
  all_goals replace rule := rule.trans (ifPowerGood_low low _)
  · exact h.answers recordPayment (.inr staff) (rule.trans (ifRoom_full (by rw [records]; exact full) _))
  · obtain ⟨journal, balance, rest⟩ := paymentStep_spec p b cents s
    refine ⟨paymentStep p b cents s, ?_, journal, balance, rest⟩
    rw [h.answers (i := .recordPayment p) recordPayment (.inr staff) (rule.trans (ifRoom_room (by rw [records]; exact room) _)),
      deliver_done, balance]

end Sys2Proof.Machine
end

section
/-! PROOF. The item steps by their checks: what the taken code leaves, and the refusals in order (O25, O29). -/

namespace Sys2Proof.Machine

/-! ### The step in the state that the taking of the code leaves -/

theorem afterTaking_slot (s : State) (st : Station) (rest : List Code) : (s.afterTaking st rest).slot st =
    { s.slot st with timer := if (s.stationConfig st).timeout = 0 then none else some (s.stationConfig st).timeout } := by
  simp [State.afterTaking]

section
variable {s : State} {st : Station} {p : Port} {item : Code} {rest : List Code} (takes : Takes s st p item rest)
include takes

theorem exec_checkoutStep {patron : Code} (serving : (s.slot st).state = .serving) (mode : (s.slot st).mode = some .checkout)
    (isItem_ : isItem item = true) (named : (s.slot st).patron = some patron) :
    exec (.checkoutStep st) s = .next (checkoutStepOf st item patron (s.afterTaking st rest)) := by
  have exec_ : exec (.checkoutStep st) s = .next (onCheckoutStep st s) := rfl
  rw [exec_, onCheckoutStep, takes.codeToTake, named]
  dsimp only
  rw [if_pos ⟨serving, mode, isItem_⟩, takes.takeCode]

theorem exec_returnStep (returning : (s.slot st).state = .returning) (isItem_ : isItem item = true) :
    exec (.returnStep st) s = .next (returnStepOf st item (s.afterTaking st rest)) := by
  have exec_ : exec (.returnStep st) s = .next (onReturnStep st s) := rfl
  rw [exec_, onReturnStep, takes.codeToTake]
  dsimp only
  rw [if_pos ⟨returning, isItem_⟩, takes.takeCode]

theorem exec_renewStep {patron : Code} (serving : (s.slot st).state = .serving) (mode : (s.slot st).mode = some .renewing)
    (isItem_ : isItem item = true) (named : (s.slot st).patron = some patron) :
    exec (.renewStep st) s = .next (renewStepOf st item patron (s.afterTaking st rest)) := by
  have exec_ : exec (.renewStep st) s = .next (onRenewStep st s) := rfl
  rw [exec_, onRenewStep, takes.codeToTake, named]
  dsimp only
  rw [if_pos ⟨serving, mode, isItem_⟩, takes.takeCode]

end

theorem checkoutChecks_afterTaking (st : Station) (item patron : Code) (rest : List Code) (s : State) :
    checkoutChecks st item patron (s.afterTaking st rest) = checkoutChecks st item patron s := by
  unfold checkoutChecks
  rw [afterTaking_slot]
  rfl

theorem blockedStep_eq {s : State} {st : Station} {p : Port} (owner : s.owner st = some p) (item patron : Code) :
    blockedStep st item patron s =
      (let v := post p ⟨.itemRefused, some st, some item, none, some (.refuse .blocked)⟩ s
       let x := post p ⟨.patronBlocked, some st, some patron, none, some (.block (s.barReason patron))⟩
         (v.putSlot st { v.slot st with state := .patronBlocked })
       x.putStation st { x.station st with indicator := some .attention }) := by
  have told : ∀ (e : Event) (t : State), t.owner st = some p → postOwner st e t = post p e t := fun e t h => by rw [postOwner, h]
  unfold blockedStep reportBlocked reportRefusal
  rw [told _ s owner]
  dsimp only
  have kept : ((post p { stationEvent .itemRefused st (some item) with reason := some (.refuse .blocked) } s).putSlot st
      { (post p { stationEvent .itemRefused st (some item) with reason := some (.refuse .blocked) } s).slot st with
        state := .patronBlocked }).owner st = some p := by
    rw [(post_same p _ s).eq]; exact owner
  rw [told _ _ kept, blockReason_eq]
  rfl

theorem barred_iff {s : State} {b : Code} : s.isBlocked b = true ↔ s.Barred b := isBlocked_iff

/-- The block check of a checkout or a renewal passes (R114). -/
theorem unbarred_iff {s : State} {st : Station} {b : Code} : ¬ ((s.slot st).overridden = false ∧ s.isBlocked b = true) ↔
    (s.slot st).overridden = true ∨ ¬ s.Barred b := by
  rw [barred_iff]
  cases (s.slot st).overridden <;> simp

/-! ### The checks of a checkout (R113) -/

theorem flagCheck_ok {f : Option FlagEntry} {patron : Code} {clear : Option ItemFlag} (h : flagCheck f patron = .ok clear) :
    clear = f.map FlagEntry.flag := by
  unfold flagCheck at h
  split at h
  · cases h; rfl
  · rename_i e
    split at h <;> rename_i flag
    · cases h
    · cases h
    · cases h; simp [flag]
    · split at h
      · cases h; simp [flag]
      · cases h

theorem flagCheck_notLoanable {f : Option FlagEntry} {patron : Code}
    (h : f.map FlagEntry.flag = some .withdrawn ∨ f.map FlagEntry.flag = some .reference) :
    flagCheck f patron = .error .notLoanable := by
  cases f with
  | none => simp at h
  | some e => rcases h with h | h <;> simp [flagCheck, Option.some.inj h]

theorem flagCheck_held {f : FlagEntry} {patron : Code} (reserved : f.flag = .reserved) (other : f.reserver ≠ some patron) :
    flagCheck (some f) patron = .error .itemHeld := by
  simp [flagCheck, reserved, other]

theorem flagCheck_passes {f : Option FlagEntry} {patron : Code} (lendable : f.map FlagEntry.flag ≠ some .withdrawn)
    (held : f.map FlagEntry.flag ≠ some .reference) (own : ¬ ∃ e, f = some e ∧ e.flag = .reserved ∧ e.reserver ≠ some patron) :
    flagCheck f patron = .ok (f.map FlagEntry.flag) := by
  cases f with
  | none => rfl
  | some e =>
    unfold flagCheck
    dsimp only
    cases flag : e.flag with
    | withdrawn => simp [flag] at lendable
    | reference => simp [flag] at held
    | missing => simp [flag]
    | reserved =>
      have mine : e.reserver = some patron := not_not.mp fun h => own ⟨e, rfl, flag, h⟩
      simp [flag, mine]

theorem loanCheck_ok {l implicit : Option Loan} {patron : Code} (h : loanCheck l patron = .ok implicit) : implicit = l := by
  unfold loanCheck at h
  split at h
  · cases h; rfl
  · split at h <;> cases h
    rfl

theorem loanCheck_yours {l : Option Loan} {patron : Code} (h : l.map Loan.borrower = some patron) :
    loanCheck l patron = .error .alreadyYours := by
  cases l with
  | none => simp at h
  | some e => simp [loanCheck, Option.some.inj h]

theorem loanCheck_passes {l : Option Loan} {patron : Code} (h : l.map Loan.borrower ≠ some patron) : loanCheck l patron = .ok l := by
  cases l with
  | none => rfl
  | some e => simp [loanCheck, show e.borrower ≠ patron by simpa using h]

theorem underLimit_iff {s : State} {b : Code} {bc : Fin 8} : s.underLimit b bc = true ↔
    (s.config.borrowerClasses.get bc).loanLimit = 255 ∨ s.loanCount b < (s.config.borrowerClasses.get bc).loanLimit := by
  simp [State.underLimit]

/-- The checks that come before the journal's room passed, with the due instant found (R113, checks 1 to 8). -/
structure CheckoutLends (st : Station) (item patron : Code) (bc : Fin 8) (day : Nat) (minute : Option Nat) (s : State) : Prop where
  system : systemOf item = s.config.system
  unbarred : (s.slot st).overridden = true ∨ ¬ s.Barred patron
  flag : flagCheck (s.flagOf item) patron = .ok ((s.flagOf item).map FlagEntry.flag)
  period : periodOf s.config (itemClassOf item) bc ≠ 0
  loan : loanCheck (s.loanOf item) patron = .ok (s.loanOf item)
  limit : (s.config.borrowerClasses.get bc).loanLimit = 255 ∨ s.loanCount patron < (s.config.borrowerClasses.get bc).loanLimit
  lines : (s.slot st).draft.length < 32
  due : ∃ facts, s.dueAt s.clock.day s.clock.minute (itemClassOf item) bc = .due day minute facts

section
variable {st : Station} {item patron : Code} {bc : Fin 8} {s : State}

/-- The checks in order, for a slot whose patron has the class given (R113). -/
theorem checkoutChecks_class (class_ : (s.slot st).patronClass = some bc) : checkoutChecks st item patron s =
    if systemOf item ≠ s.config.system then .refuse .foreign
    else if (s.slot st).overridden = false ∧ s.isBlocked patron = true then .blocked
    else match flagCheck (s.flagOf item) patron with
      | .error r => .refuse r
      | .ok clear =>
        if periodOf s.config (itemClassOf item) bc = 0 then .refuse .notLoanable
        else match loanCheck (s.loanOf item) patron with
          | .error r => .refuse r
          | .ok implicit =>
            if s.underLimit patron bc = false then .refuse .limit
            else if 32 ≤ (s.slot st).draft.length then .refuse .transactionFull
            else match s.dueAt s.clock.day s.clock.minute (itemClassOf item) bc with
              | .notLoanable => .refuse .notLoanable
              | .calendarEnd _ => .refuse .calendarEnd
              | .due day minute _ =>
                let plan : CheckoutPlan := ⟨clear, implicit, day, minute⟩
                if s.hasRoom plan.records then .pass plan else .refuse .journalFull := by
  unfold checkoutChecks
  dsimp only
  rw [class_] <;> rfl

theorem CheckoutLends.checks {day : Nat} {minute : Option Nat} (h : CheckoutLends st item patron bc day minute s)
    (class_ : (s.slot st).patronClass = some bc) : checkoutChecks st item patron s =
    if s.hasRoom (CheckoutPlan.records ⟨(s.flagOf item).map FlagEntry.flag, s.loanOf item, day, minute⟩) then
      .pass ⟨(s.flagOf item).map FlagEntry.flag, s.loanOf item, day, minute⟩
    else .refuse .journalFull := by
  obtain ⟨facts, due⟩ := h.due
  rw [checkoutChecks_class class_, if_neg (not_not.mpr h.system), if_neg (unbarred_iff.mpr h.unbarred), h.flag]
  dsimp only
  rw [if_neg h.period, h.loan]
  dsimp only
  rw [if_neg (by rw [underLimit_iff.mpr h.limit]; simp), if_neg (Nat.not_le.mpr h.lines), due]

end

/-- Settles O25: each check in the state that passes those before it. -/
theorem checkoutChecksInOrder : Obligations.CheckoutChecksInOrder := by
  unfold Obligations.CheckoutChecksInOrder
  intro st p item patron bc rest s takes serving mode isItem_ named class_ u refused flagged heldForAnother limit due needed
  have step := exec_checkoutStep takes serving mode isItem_ named
  have owner : u.owner st = some p := takes.owner
  rw [checkoutStepOf, checkoutChecks_afterTaking] at step
  have refuses : ∀ r, checkoutChecks st item patron s = .refuse r → refused r := fun r h => by
    rw [h] at step
    exact step.trans (congrArg _ (refuseStep_eq owner item r))
  have rule := checkoutChecks_class (item := item) (patron := patron) class_
  refine ⟨fun foreign => refuses _ (rule.trans (if_pos foreign)), fun system => ?_⟩
  rw [if_neg (not_not.mpr system)] at rule
  refine ⟨fun plain barred => ?_, fun unbarred => ?_⟩
  · rw [rule, if_pos ⟨plain, barred_iff.mpr barred⟩] at step
    exact step.trans (congrArg _ (blockedStep_eq owner item patron))
  rw [if_neg (unbarred_iff.mpr unbarred)] at rule
  refine ⟨fun shelved => ?_, ?_, fun notWithdrawn notReference own => ?_⟩
  · rw [flagCheck_notLoanable shelved] at rule; exact refuses _ rule
  · rintro ⟨f, entry, reserved, other⟩
    rw [entry, flagCheck_held reserved other] at rule
    exact refuses _ rule
  have flag := flagCheck_passes notWithdrawn notReference own
  rw [flag] at rule
  refine ⟨fun none => refuses _ (rule.trans (if_pos none)), fun period => ?_⟩
  replace rule := rule.trans (if_neg period)
  refine ⟨fun yours => ?_, fun notYours => ?_⟩
  · rw [loanCheck_yours yours] at rule; exact refuses _ rule
  have loan := loanCheck_passes notYours
  rw [loan] at rule
  refine ⟨fun bounded reached => ?_, fun under => ?_⟩
  · refine refuses _ (rule.trans (if_pos (Bool.eq_false_iff.mpr fun h => ?_)))
    rcases underLimit_iff.mp h with h | h
    · exact bounded h
    · exact absurd reached (Nat.not_le.mpr h)
  replace rule := rule.trans (if_neg (by rw [underLimit_iff.mpr under]; simp))
  refine ⟨fun full => refuses _ (rule.trans (if_pos full)), fun lines => ?_⟩
  replace rule := rule.trans (if_neg (Nat.not_le.mpr lines))
  refine ⟨fun elapsed end_ => ?_, fun day minute facts found full => ?_⟩
  · rw [show s.dueAt s.clock.day s.clock.minute (itemClassOf item) bc = _ from end_] at rule
    exact refuses _ rule
  · have lends : CheckoutLends st item patron bc day minute s := ⟨system, unbarred, flag, period, loan, under, lines, facts, found⟩
    have marked : (s.flagOf item).isSome = true ↔ flagged .missing ∨ flagged .reserved := by
      dsimp only [flagged] at notWithdrawn notReference ⊢
      cases h : s.flagOf item with
      | none => simp
      | some e => rw [h] at notWithdrawn notReference; cases k : e.flag <;> simp [k] at notWithdrawn notReference ⊢
    have records : CheckoutPlan.records ⟨(s.flagOf item).map FlagEntry.flag, s.loanOf item, day, minute⟩ = needed := by
      simp only [CheckoutPlan.records, Option.isSome_map, needed, marked]
    refine refuses _ ((lends.checks class_).trans (if_neg fun h => ?_))
    rw [records] at h
    exact absurd (of_decide_eq_true h) (Nat.not_le.mpr full)

/-! ### The checks of a renewal (R119) -/

theorem isReserved_iff {s : State} {item : Code} : s.isReserved item = true ↔ (s.flagOf item).map FlagEntry.flag = some .reserved := by
  unfold State.isReserved
  cases s.flagOf item <;> simp

/-- The records of a fine with its test, by the balance that the fine leaves (R35, R117). -/
theorem fineRecords_eq (s : State) (st : Station) (l : Loan) (fine : Nat) : s.fineRecords st l fine =
    if 0 < fine then 1 + (if (s.testCallsFor l.borrower
      (if s.tracks l.borrower then min (s.balanceOf l.borrower + fine) 999999 else s.balanceOf l.borrower)).isSome then 1 else 0)
    else 0 := by
  unfold State.fineRecords
  split
  · rename_i pos
    have charged := chargeMoney_eq st l pos s
    rw [writeMoney_eq, updateBalance_balances] at charged
    have balances : (chargeMoney st l fine s).rm.balances = s.balancesCharged l.borrower (fun x => min (x + fine) 999999) := by
      rw [charged]; rfl
    have blocks : (chargeMoney st l fine s).rm.blocks = s.rm.blocks := by rw [charged]
    have config : (chargeMoney st l fine s).config = s.config := by rw [charged]
    rw [testRecords_eq, balanceOf_charged balances, testCallsFor_congr blocks config]
  · rfl

theorem renewChecks_afterTaking (st : Station) (item patron : Code) (rest : List Code) (s : State) :
    renewChecks st item patron (s.afterTaking st rest) = renewChecks st item patron s := by
  have records : ∀ l fine, (s.afterTaking st rest).fineRecords st l fine = s.fineRecords st l fine := fun l fine => by
    rw [fineRecords_eq, fineRecords_eq]
    rfl
  unfold renewChecks
  simp only [records, afterTaking_slot]
  rfl

/-- The instant from which a renewal's due is computed, written out (R27). -/
theorem renewalDue_eq (s : State) (l : Loan) : s.dueAt (s.renewalInstant l).1 (s.renewalInstant l).2 l.itemClass l.borrowerClass =
    if s.clock.day * 1440 + s.clock.minute < l.outDay * 1440 + l.outMinute then
      s.dueAt l.outDay l.outMinute l.itemClass l.borrowerClass
    else s.dueAt s.clock.day s.clock.minute l.itemClass l.borrowerClass := by
  unfold State.renewalInstant
  split <;> rfl

/-- The checks before the due instant passed (R119, checks 1 to 6). -/
structure RenewAllowed (st : Station) (item patron : Code) (l : Loan) (s : State) : Prop where
  system : systemOf item = s.config.system
  unbarred : (s.slot st).overridden = true ∨ ¬ s.Barred patron
  loan : s.loanOf item = some l
  yours : l.borrower = patron
  unreserved : (s.flagOf item).map FlagEntry.flag ≠ some .reserved
  renewals : l.renewals < (s.config.itemClasses.get l.itemClass).maxRenewals
  lines : (s.slot st).draft.length < 32

theorem RenewAllowed.checks {st : Station} {item patron : Code} {l : Loan} {s : State} (h : RenewAllowed st item patron l s) :
    renewChecks st item patron s =
      match s.dueAt (s.renewalInstant l).1 (s.renewalInstant l).2 l.itemClass l.borrowerClass with
      | .notLoanable => .refuse .notLoanable
      | .calendarEnd _ => .refuse .calendarEnd
      | .due day minute _ =>
        if s.hasRoom (s.fineRecords st l (s.fineOf l) + 1) then .pass ⟨l, day, minute⟩ else .refuse .journalFull := by
  unfold renewChecks
  rw [if_neg (not_not.mpr h.system), if_neg (unbarred_iff.mpr h.unbarred), h.loan]
  dsimp only
  rw [if_neg (not_not.mpr h.yours), if_neg (fun k => h.unreserved (isReserved_iff.mp k)), if_neg (Nat.not_le.mpr h.renewals),
    if_neg (show ¬ Config.linesMax ≤ (s.slot st).draft.length from Nat.not_le.mpr h.lines)] <;> rfl

/-- Settles O29: each check in the state that passes those before it. -/
theorem renewChecksInOrder : Obligations.RenewChecksInOrder := by
  unfold Obligations.RenewChecksInOrder
  intro st p item patron rest s takes serving mode isItem_ named u refused
  have step := exec_renewStep takes serving mode isItem_ named
  have owner : u.owner st = some p := takes.owner
  rw [renewStepOf, renewChecks_afterTaking] at step
  have refuses : ∀ r, renewChecks st item patron s = .refuse r → refused r := fun r h => by
    rw [h] at step
    exact step.trans (congrArg _ (refuseStep_eq owner item r))
  have rule := renewChecks.eq_1 st item patron s
  refine ⟨fun foreign => refuses _ (rule.trans (if_pos foreign)), fun system => ?_⟩
  rw [if_neg (not_not.mpr system)] at rule
  refine ⟨fun plain barred => ?_, fun unbarred => ?_⟩
  · rw [rule, if_pos ⟨plain, barred_iff.mpr barred⟩] at step
    exact step.trans (congrArg _ (blockedStep_eq owner item patron))
  rw [if_neg (unbarred_iff.mpr unbarred)] at rule
  refine ⟨fun none => ?_, fun l loan => ?_⟩
  · rw [none] at rule; exact refuses _ rule
  rw [loan] at rule
  dsimp only at rule
  refine ⟨fun other => refuses _ (rule.trans (if_pos other)), fun yours => ?_⟩
  rw [if_neg (not_not.mpr yours)] at rule
  refine ⟨fun held => refuses _ (rule.trans (if_pos (isReserved_iff.mpr held))), fun unreserved => ?_⟩
  rw [if_neg (fun k => unreserved (isReserved_iff.mp k))] at rule
  refine ⟨fun reached => refuses _ (rule.trans (if_pos reached)), fun renewals => ?_⟩
  rw [if_neg (Nat.not_le.mpr renewals)] at rule
  refine ⟨fun full => refuses _ (rule.trans (if_pos full)), fun lines => ?_⟩
  intro early due fine after needed
  have checks := RenewAllowed.checks ⟨system, unbarred, loan, yours, unreserved, renewals, lines⟩
  have found : s.dueAt (s.renewalInstant l).1 (s.renewalInstant l).2 l.itemClass l.borrowerClass = due := renewalDue_eq s l
  rw [found] at checks
  refine ⟨fun none => ?_, fun elapsed end_ => ?_, fun day minute facts later full => ?_⟩
  · rw [none] at checks; exact refuses _ checks
  · rw [end_] at checks; exact refuses _ checks
  · have records : s.fineRecords st l (s.fineOf l) + 1 = needed := by
      rw [fineRecords_eq, yours]
      simp only [needed, after, fine]
      split <;> omega
    rw [later, records] at checks
    exact refuses _ (checks.trans (if_neg fun k => absurd (of_decide_eq_true k) (Nat.not_le.mpr full)))

end Sys2Proof.Machine
end

section
/-! PROOF. A checkout past every check: its records, the tables it changes and what it tells (O26, O27). -/

namespace Sys2Proof.Machine

/-! ### The end of an item step: the line, what the owner is told, the ACCEPT tone and JOURNAL-HIGH -/

/-- An item step's line, its event to the owner and the ACCEPT tone, after the records `c` of the state in which the code was taken. -/
theorem itemStepEnd_eq {s c w : State} {st : Station} {p : Port} {rest : List Code} (owner : s.owner st = some p)
    (frame : c = { s.afterTaking st rest with rm := c.rm, ports := w.ports }) (line : ItemLine) (e : Event) :
    tone st .accept (postOwner st e (addLine st line c)) = { s with
      rm := c.rm,
      slots := s.slots.set st { (s.afterTaking st rest).slot st with draft := (s.slot st).draft ++ [line] },
      stations := s.stations.set st { s.station st with scans := rest, overflow := false, indicator := some .accept },
      ports := (post p e w).ports } := by
  have owned : (addLine st line c).owner st = some p := by rw [frame]; exact owner
  have slot : c.slot st = (s.afterTaking st rest).slot st := by rw [frame]; rfl
  have draft : ((s.afterTaking st rest).slot st).draft = (s.slot st).draft := by rw [afterTaking_slot]
  have ports : (post p e (addLine st line c)).ports = (post p e w).ports := post_ports_congr (by rw [frame]; rfl) p e
  have same := (post_same p e (addLine st line c)).eq
  rw [ports] at same
  rw [postOwner, owned]
  dsimp only
  rw [same, tone]
  have station : c.station st = (s.afterTaking st rest).station st := by rw [frame]; rfl
  have slots : (addLine st line c).slots = s.slots.set st
      { (s.afterTaking st rest).slot st with draft := (s.slot st).draft ++ [line] } := by
    rw [addLine, slot, draft, frame]
    simp [State.putSlot, State.afterTaking, PerStation.set_set]
  have stations : c.stations = s.stations.set st { s.station st with scans := rest, overflow := false } := by rw [frame]; rfl
  have kept : addLine st line c = { s with rm := c.rm, slots := (addLine st line c).slots, stations := c.stations, ports := w.ports } := by
    rw [addLine, frame]; rfl
  rw [slots, stations] at kept
  rw [kept]
  simp [State.putStation, State.station, PerStation.set_set]

/-- An event to the owner before the line is written shows after it. -/
theorem postOwner_addLine {c : State} {st : Station} {p : Port} (owner : c.owner st = some p) (line : ItemLine) (e : Event) :
    postOwner st e (addLine st line c) = addLine st line (post p e c) := by
  have owned : (addLine st line c).owner st = some p := owner
  rw [postOwner, owned]
  rfl

theorem post_told {u c w : State} (frame : c = { u with rm := c.rm, ports := w.ports }) (p : Port) (e : Event) :
    post p e c = { u with rm := (post p e c).rm, ports := (post p e w).ports } := by
  have ports : (post p e c).ports = (post p e w).ports := post_ports_congr (by rw [frame]) p e
  have same := (post_same p e c).eq
  rw [ports] at same
  rw [same]
  conv_lhs => rw [frame]

/-- What a step of which `x` was left before JOURNAL-HIGH shows at its end, for a terminal told as `w` shows (R38). -/
theorem stepEnds_of {s x w : State} {rm : Collections} {slots : PerStation Slot} {stations : PerStation WandStation}
    (x_eq : x = { s with rm := rm, slots := slots, stations := stations, ports := w.ports }) (armed : w.armed = s.armed) :
    let t := highWater x
    t.rm = rm ∧ t.slots = slots ∧ t.stations = stations ∧
      t = { s with rm := t.rm, slots := t.slots, stations := t.stations, ports := t.ports, armed := t.armed } ∧ TellsAtEnd w t := by
  have frame := highWater_frame x
  refine ⟨by rw [highWater_rm, x_eq], ?_, ?_, ?_, tellsAtEnd_highWater (by rw [x_eq]) (by rw [x_eq, armed])⟩
  · rw [frame, x_eq]
  · rw [frame, x_eq]
  · rw [frame, x_eq]

/-! ### The flag cleared (R59), the loan returned implicitly (R115) -/

theorem stepPort_owner {s : State} {st : Station} {p : Port} (owner : s.owner st = some p) : s.stepPort st = p := by
  rw [State.stepPort, owner]
  rfl

/-- The searches after an item's flag has left the ITEM FLAG TABLE, if it had one (R41). -/
def State.searchesUnflagged (s : State) (item : Code) : State :=
  if (s.flagOf item).isSome then moveSearches .flags (removedAt (rank FlagEntry.key item.toNat s.rm.flags)) s else s

/-- The searches after an item's loan has left the LOAN TABLE, if it had one (R41). -/
def State.searchesReturned (s : State) (item : Code) (w : State) : State :=
  if (s.loanOf item).isSome then moveSearches .loans (removedAt (rank Loan.key item.toNat s.rm.loans)) w else w

/-- What the clearing of an item's flag leaves (R59). -/
structure FlagCleared (st : Station) (p : Port) (item : Code) (s t : State) : Prop where
  journal : t.rm.journal = s.rm.journal ++ if (s.flagOf item).isSome then
    [⟨s.rm.nextSeq, .flagClear, s.clock.day, s.clock.minute, some st, p, {}, none, some item, none, none, none, false⟩] else []
  seq : t.rm.nextSeq = if (s.flagOf item).isSome then (s.rm.nextSeq + 1) % 65536 else s.rm.nextSeq
  gone : t.flagOf item = none
  others : ∀ other, other ≠ item → t.flagOf other = s.flagOf other
  kept : s.flagOf item = none → t.rm.flags = s.rm.flags
  rm : t.rm = { s.rm with journal := t.rm.journal, nextSeq := t.rm.nextSeq, flags := t.rm.flags }
  rest : t = { s with rm := t.rm, ports := (s.searchesUnflagged item).ports }

theorem flagCleared_clearFlagFor {s : State} {st : Station} {p : Port} (port : s.stepPort st = p) (item : Code) :
    FlagCleared st p item s (clearFlagFor st item ((s.flagOf item).map FlagEntry.flag) s) := by
  cases flag : s.flagOf item with
  | none =>
    exact ⟨by simp [clearFlagFor, flag], by simp [clearFlagFor, flag], flag, fun _ _ => rfl, fun _ => rfl, rfl,
      by simp [clearFlagFor, State.searchesUnflagged, flag]⟩
  | some f =>
    have moved : (s.searchesUnflagged item).ports =
        (moveSearches .flags (removedAt (rank FlagEntry.key item.toNat s.rm.flags)) s).ports := by
      simp [State.searchesUnflagged, flag]
    have frame := removeFlagOf_frame item s
    rw [if_pos (by rw [flag]; simp), ← moved] at frame
    have gone := removeFlagOf_flagOf item s
    have others : ∀ other, other ≠ item → (removeFlagOf item s).flagOf other = s.flagOf other :=
      fun other ne => removeFlagOf_flagOf_other ne s
    simp only [clearFlagFor, Option.map_some, port]
    generalize removeFlagOf item s = v at frame gone others
    rw [writeRecord_eq]
    refine ⟨?_, ?_, gone, others, fun none => (by rw [flag] at none; cases none), ?_, ?_⟩
    · rw [flag, frame]; rfl
    · rw [flag, frame]; rfl
    · rw [frame]
    · rw [frame]

/-- What the implicit return of an item leaves (R28, R115). -/
structure LoanReturned (st : Station) (p : Port) (item : Code) (s t : State) : Prop where
  journal : t.rm.journal = s.rm.journal ++ match s.loanOf item with
    | some l => [⟨s.rm.nextSeq, .returned, s.clock.day, s.clock.minute, some st, p, { implicit := true }, some l.borrower, some item,
        none, none, none, false⟩]
    | none => []
  seq : t.rm.nextSeq = if (s.loanOf item).isSome then (s.rm.nextSeq + 1) % 65536 else s.rm.nextSeq
  gone : t.loanOf item = none
  left : t.rm.loans = s.rm.loans.filter (fun l => l.item != item)
  rm : t.rm = { s.rm with journal := t.rm.journal, nextSeq := t.rm.nextSeq, loans := t.rm.loans }
  rest : t = { s with rm := t.rm, ports := (s.searchesReturned item s).ports }

theorem removeBy_loan (item : Code) (loans : List Loan) :
    removeBy Loan.key item.toNat loans = loans.filter (fun l => l.item != item) := by
  unfold removeBy
  refine congrArg (fun f => loans.filter f) (funext fun l => ?_)
  rw [Bool.eq_iff_iff]
  simp [Loan.key, BitVec.toNat_eq]

theorem filter_notLent {s : State} {item : Code} (h : s.loanOf item = none) :
    s.rm.loans.filter (fun l => l.item != item) = s.rm.loans := by
  refine List.filter_eq_self.mpr fun l mem => ?_
  have := List.find?_eq_none.mp h l mem
  simp only [Loan.key, beq_iff_eq] at this
  simpa using fun k : l.item = item => this (by rw [k])

theorem loanReturned_returnImplicitly {s : State} {st : Station} {p : Port} (port : s.stepPort st = p) (item : Code) :
    LoanReturned st p item s (returnImplicitly st item (s.loanOf item) s) := by
  cases loan : s.loanOf item with
  | none =>
    exact ⟨by simp [returnImplicitly, loan], by simp [returnImplicitly, loan], loan, (filter_notLent loan).symm, rfl,
      by simp [returnImplicitly, State.searchesReturned, loan]⟩
  | some l =>
    have moved : (s.searchesReturned item s).ports =
        (moveSearches .loans (removedAt (rank Loan.key item.toNat s.rm.loans)) s).ports := by
      simp [State.searchesReturned, loan]
    have removed := removeLoan_lent loan
    have gone := removeLoan_loanOf item s
    have left : (removeLoan item s).rm.loans = s.rm.loans.filter (fun l => l.item != item) := by rw [removed]; exact removeBy_loan ..
    have frame := removeLoan_frame item s
    rw [if_pos (by rw [loan]; simp), ← moved] at frame
    simp only [returnImplicitly, port]
    generalize removeLoan item s = v at frame gone left
    rw [writeRecord_eq]
    refine ⟨?_, ?_, gone, left, ?_, ?_⟩
    · rw [loan, frame]; rfl
    · rw [loan, frame]; rfl
    · rw [frame]
    · rw [frame]

/-! ### The loan (R26, R116) -/

/-- The searches after an item's loan has joined a LOAN TABLE with room (R41). -/
def searchesLent (loans : List Loan) (item : Code) (w : State) : State :=
  if loans.length < 8192 then moveSearches .loans (insertedAt (rank Loan.key item.toNat loans)) w else w

/-- The CHECKOUT record of a loan due at an instant (R26, R116). -/
def checkoutRecord (st : Station) (p : Port) (item patron : Code) (day : Nat) (minute : Option Nat) (flags : RecordFlags) (s : State) :
    Record :=
  ⟨s.rm.nextSeq, .checkout, s.clock.day, s.clock.minute, some st, p, { flags with notTabled := decide (8192 ≤ s.rm.loans.length) },
    some patron, some item, some day, minute, none, false⟩

/-- What the loan of an item that no one has on loan leaves (R26, R116). -/
structure Lent (st : Station) (p : Port) (item patron : Code) (day : Nat) (minute : Option Nat) (flags : RecordFlags) (s t : State) :
    Prop where
  journal : t.rm.journal = s.rm.journal ++ [checkoutRecord st p item patron day minute flags s]
  seq : t.rm.nextSeq = (s.rm.nextSeq + 1) % 65536
  loan : t.loanOf item = if s.rm.loans.length < 8192 then
    some ⟨item, patron, itemClassOf item, borrowerClassOf patron, s.clock.day, s.clock.minute, day, minute, 0, s.rm.nextSeq⟩ else none
  others : ∀ other, other ≠ item → t.loanOf other = s.loanOf other
  full : 8192 ≤ s.rm.loans.length → t.rm.loans = s.rm.loans
  rm : t.rm = { s.rm with journal := t.rm.journal, nextSeq := t.rm.nextSeq, loans := t.rm.loans }
  rest : t = { s with rm := t.rm, ports := (searchesLent s.rm.loans item s).ports }

theorem lent_lend {s : State} {st : Station} {p : Port} {item : Code} (port : s.stepPort st = p) (unlent : s.loanOf item = none)
    (patron : Code) (plan : CheckoutPlan) (flags : RecordFlags) :
    Lent st p item patron plan.dueDay plan.dueMinute flags s (lend st item patron plan flags s) := by
  unfold lend
  dsimp only
  rw [port]
  by_cases full : 8192 ≤ s.rm.loans.length
  · rw [if_pos (decide_eq_true (show Config.loansMax ≤ _ from full))]
    refine ⟨rfl, rfl, ?_, fun _ _ => rfl, fun _ => rfl, rfl, ?_⟩
    · rw [if_neg (Nat.not_lt.mpr full)]; exact unlent
    · rw [searchesLent, if_neg (Nat.not_lt.mpr full)]; rfl
  · have room : s.rm.loans.length < 8192 := Nat.lt_of_not_le full
    rw [if_neg (by rw [decide_eq_false (show ¬ Config.loansMax ≤ s.rm.loans.length from full)]; simp)]
    refine ⟨rfl, rfl, ?_, fun other ne => ?_, fun h => absurd h full, rfl, ?_⟩
    · rw [if_pos room]
      exact lookupBy_insertBy_same Loan.key
        (⟨item, patron, itemClassOf item, borrowerClassOf patron, s.clock.day, s.clock.minute, plan.dueDay, plan.dueMinute, 0,
          s.rm.nextSeq⟩ : Loan) unlent
    · exact lookupBy_insertBy_other Loan.key _ (fun e => ne (BitVec.eq_of_toNat_eq e)) _
    · rw [searchesLent, if_pos room]; rfl

/-! ### The records of a checkout past every check (R116) -/

/-- The next sequence after the FLAG-CLEAR of an item, if it is flagged. -/
def State.seqCleared (s : State) (item : Code) : Nat :=
  if (s.flagOf item).isSome then (s.rm.nextSeq + 1) % 65536 else s.rm.nextSeq

/-- The next sequence after the FLAG-CLEAR and the RETURN/IMPLICIT of an item: that of its CHECKOUT. -/
def State.seqReturned (s : State) (item : Code) : Nat :=
  if (s.loanOf item).isSome then (s.seqCleared item + 1) % 65536 else s.seqCleared item

/-- The LOAN TABLE without an item's loan. -/
def State.loansWithout (s : State) (item : Code) : List Loan := s.rm.loans.filter (fun l => l.item != item)

/-- The searches after a checkout of an item (R41). -/
def State.searchesCheckedOut (s : State) (item : Code) : State :=
  searchesLent (s.loansWithout item) item (s.searchesReturned item (s.searchesUnflagged item))

/-- What the records of a checkout leave (R26, R28, R59, R116). -/
structure CheckedOut (st : Station) (p : Port) (item patron : Code) (day : Nat) (minute : Option Nat) (flags : RecordFlags)
    (s t : State) : Prop where
  journal : t.rm.journal = s.rm.journal ++
    (if (s.flagOf item).isSome then
      [⟨s.rm.nextSeq, .flagClear, s.clock.day, s.clock.minute, some st, p, {}, none, some item, none, none, none, false⟩]
     else []) ++
    (match s.loanOf item with
     | some l => [⟨s.seqCleared item, .returned, s.clock.day, s.clock.minute, some st, p, { implicit := true }, some l.borrower,
         some item, none, none, none, false⟩]
     | none => []) ++
    [⟨s.seqReturned item, .checkout, s.clock.day, s.clock.minute, some st, p,
      { flags with notTabled := decide (8192 ≤ (s.loansWithout item).length) }, some patron, some item, some day, minute, none, false⟩]
  seq : t.rm.nextSeq = (s.seqReturned item + 1) % 65536
  unflagged : t.flagOf item = none
  flags : ∀ other, other ≠ item → t.flagOf other = s.flagOf other
  flagsKept : s.flagOf item = none → t.rm.flags = s.rm.flags
  loan : t.loanOf item = if (s.loansWithout item).length < 8192 then
    some ⟨item, patron, itemClassOf item, borrowerClassOf patron, s.clock.day, s.clock.minute, day, minute, 0, s.seqReturned item⟩
    else none
  loans : ∀ other, other ≠ item → t.loanOf other = s.loanOf other
  full : 8192 ≤ (s.loansWithout item).length → t.rm.loans = s.loansWithout item
  rm : t.rm = { s.rm with journal := t.rm.journal, loans := t.rm.loans, flags := t.rm.flags, nextSeq := t.rm.nextSeq }
  rest : t = { s with rm := t.rm, ports := (s.searchesCheckedOut item).ports }

theorem searchesReturned_ports {s t v w : State} {item : Code} (loans : t.rm.loans = s.rm.loans) (ports : v.ports = w.ports) :
    (t.searchesReturned item v).ports = (s.searchesReturned item w).ports := by
  have lookup : t.loanOf item = s.loanOf item := by rw [State.loanOf, loans]; rfl
  unfold State.searchesReturned
  rw [lookup, loans]
  split
  · simp only [moveSearches, ports]
  · exact ports

theorem searchesLent_ports {t w : State} (ports : t.ports = w.ports) (loans : List Loan) (item : Code) :
    (searchesLent loans item t).ports = (searchesLent loans item w).ports := by
  unfold searchesLent
  split
  · simp only [moveSearches, ports]
  · exact ports

theorem searchesCheckedOut_ports {s t : State} (rm : t.rm = s.rm) (ports : t.ports = s.ports) (item : Code) :
    (t.searchesCheckedOut item).ports = (s.searchesCheckedOut item).ports := by
  have unflagged : (t.searchesUnflagged item).ports = (s.searchesUnflagged item).ports := by
    unfold State.searchesUnflagged State.flagOf
    rw [rm]
    split
    · simp only [moveSearches, ports]
    · exact ports
  unfold State.searchesCheckedOut State.loansWithout
  rw [rm]
  exact searchesLent_ports (searchesReturned_ports (by rw [rm]) unflagged) ..

theorem checkedOut_lent {s : State} {st : Station} {p : Port} (port : s.stepPort st = p) (item patron : Code) (day : Nat)
    (minute : Option Nat) (flags : RecordFlags) : CheckedOut st p item patron day minute flags s
      (lent st item patron ⟨(s.flagOf item).map FlagEntry.flag, s.loanOf item, day, minute⟩ flags s) := by
  have cleared := flagCleared_clearFlagFor port item
  unfold lent
  dsimp only
  generalize clearFlagFor st item ((s.flagOf item).map FlagEntry.flag) s = a at cleared
  have loansA : a.rm.loans = s.rm.loans := by rw [cleared.rm]
  have lookupA : ∀ c, a.loanOf c = s.loanOf c := fun c => by rw [State.loanOf, loansA]; rfl
  have clockA : a.clock = s.clock := by rw [cleared.rest]
  have portsA : a.ports = (s.searchesUnflagged item).ports := by rw [cleared.rest]
  have seqA : a.rm.nextSeq = s.seqCleared item := cleared.seq
  have portA : a.stepPort st = p := by rw [cleared.rest]; exact port
  have returned := loanReturned_returnImplicitly portA item
  rw [lookupA] at returned
  generalize returnImplicitly st item (s.loanOf item) a = b at returned
  have leftB : b.rm.loans = s.loansWithout item := by rw [returned.left, loansA]; rfl
  have clockB : b.clock = s.clock := by rw [returned.rest, ← clockA]
  have seqB : b.rm.nextSeq = s.seqReturned item := by rw [returned.seq, lookupA, seqA]; rfl
  have portB : b.stepPort st = p := by rw [returned.rest]; exact portA
  have portsB : b.ports = (s.searchesReturned item (s.searchesUnflagged item)).ports := by
    rw [returned.rest]; exact searchesReturned_ports loansA portsA
  have lookupB : ∀ other, other ≠ item → b.loanOf other = s.loanOf other := fun other ne => by
    rw [State.loanOf, returned.left, ← removeBy_loan,
      lookupBy_removeBy_other Loan.key (fun e => ne (BitVec.eq_of_toNat_eq e)), loansA]
    rfl
  have lends := lent_lend portB returned.gone patron ⟨(s.flagOf item).map FlagEntry.flag, s.loanOf item, day, minute⟩ flags
  generalize lend st item patron ⟨(s.flagOf item).map FlagEntry.flag, s.loanOf item, day, minute⟩ flags b = t at lends
  have flagsT : t.rm.flags = a.rm.flags := by rw [lends.rm, returned.rm]
  have lookupT : ∀ c, t.flagOf c = a.flagOf c := fun c => by rw [State.flagOf, flagsT]; rfl
  refine ⟨?_, ?_, (lookupT item).trans cleared.gone, fun other ne => (lookupT other).trans (cleared.others other ne),
    fun none => flagsT.trans (cleared.kept none), ?_, fun other ne => (lends.others other ne).trans (lookupB other ne),
    fun full => ?_, ?_, ?_⟩
  · rw [lends.journal, returned.journal, cleared.journal, lookupA, seqA, clockA, checkoutRecord, seqB, clockB, leftB]
  · rw [lends.seq, seqB]
  · rw [lends.loan, leftB, seqB, clockB]
  · rw [lends.full (by rw [leftB]; exact full), leftB]
  · have frame := lends.rm
    rw [returned.rm, cleared.rm] at frame
    exact frame.trans (by rw [flagsT])
  · have ports : (searchesLent b.rm.loans item b).ports = (s.searchesCheckedOut item).ports := by
      rw [leftB]; exact searchesLent_ports portsB ..
    have frame := lends.rest
    rw [ports, returned.rest, cleared.rest] at frame
    exact frame

/-! ### The step (O26, O27) -/

/-- What the owner is told before ITEM-OUT (R116). -/
def foundTold (st : Station) (p : Port) (item : Code) (clear : Option ItemFlag) (w : State) : State :=
  if clear = some .missing then post p ⟨.itemFound, some st, some item, none, none⟩ w else w

theorem foundTold_armed (st : Station) (p : Port) (item : Code) (clear : Option ItemFlag) (w : State) :
    (foundTold st p item clear w).armed = w.armed := by
  unfold foundTold
  split <;> rfl

theorem searchesCheckedOut_armed (s : State) (item : Code) : (s.searchesCheckedOut item).armed = s.armed := by
  unfold State.searchesCheckedOut searchesLent State.searchesReturned State.searchesUnflagged
  split <;> split <;> split <;> rfl

/-- A checkout that passes every check: the records, and what the step leaves and tells at its end. -/
theorem checkoutSucceeds_spec {s : State} {st : Station} {p : Port} (owner : s.owner st = some p) (item patron : Code)
    (rest : List Code) (day : Nat) (minute : Option Nat) :
    let u := s.afterTaking st rest
    let flags := loanFlags st patron minute u
    let w := post p ⟨.itemOut, some st, some item, some (.due day minute), none⟩
      (foundTold st p item ((s.flagOf item).map FlagEntry.flag) (s.searchesCheckedOut item))
    let t := checkoutSucceeds st item patron ⟨(s.flagOf item).map FlagEntry.flag, s.loanOf item, day, minute⟩ u
    ∃ c, CheckedOut st p item patron day minute flags u c ∧ t.rm = c.rm ∧
      t.slots = s.slots.set st { u.slot st with draft := (s.slot st).draft ++ [⟨item, .out, some (day, minute), 0, none⟩] } ∧
      t.stations = s.stations.set st { s.station st with scans := rest, overflow := false, indicator := some .accept } ∧
      t = { s with rm := t.rm, slots := t.slots, stations := t.stations, ports := t.ports, armed := t.armed } ∧ TellsAtEnd w t := by
  intro u flags w
  obtain ⟨c, c_eq⟩ : ∃ c, lent st item patron ⟨(s.flagOf item).map FlagEntry.flag, s.loanOf item, day, minute⟩ flags u = c := ⟨_, rfl⟩
  have records : CheckedOut st p item patron day minute flags u c := c_eq ▸ checkedOut_lent (s := u) (stepPort_owner owner) item patron day minute flags
  refine ⟨c, records, ?_⟩
  have frame := records.rest
  rw [show (u.searchesCheckedOut item).ports = (s.searchesCheckedOut item).ports from
    searchesCheckedOut_ports (s := s) (t := u) rfl rfl item] at frame
  have told : ∀ c : State, c.owner st = some p → ∀ line, (if (s.flagOf item).map FlagEntry.flag = some .missing then
      postOwner st (stationEvent .itemFound st (some item)) (addLine st line c) else addLine st line c) =
      addLine st line (foundTold st p item ((s.flagOf item).map FlagEntry.flag) c) := fun c owned line => by
    unfold foundTold
    split
    · exact postOwner_addLine owned line _
    · rfl
  unfold checkoutSucceeds
  dsimp only
  rw [show lend st item patron ⟨(s.flagOf item).map FlagEntry.flag, s.loanOf item, day, minute⟩ (loanFlags st patron minute u)
    (returnImplicitly st item (s.loanOf item) (clearFlagFor st item ((s.flagOf item).map FlagEntry.flag) u)) = c from c_eq,
    told c (by rw [frame]; exact owner)]
  have kept : foundTold st p item ((s.flagOf item).map FlagEntry.flag) c = { u with
      rm := c.rm, ports := (foundTold st p item ((s.flagOf item).map FlagEntry.flag) (s.searchesCheckedOut item)).ports } ∧
      (foundTold st p item ((s.flagOf item).map FlagEntry.flag) c).rm = c.rm := by
    unfold foundTold
    split
    · have rm : (post p ⟨.itemFound, some st, some item, none, none⟩ c).rm = c.rm := rfl
      exact ⟨by have := post_told frame p ⟨.itemFound, some st, some item, none, none⟩; rwa [rm] at this, rm⟩
    · exact ⟨frame, rfl⟩
  obtain ⟨keptFrame, keptRm⟩ := kept
  generalize foundTold st p item ((s.flagOf item).map FlagEntry.flag) c = c' at keptFrame keptRm ⊢
  rw [← keptRm] at keptFrame ⊢
  exact stepEnds_of (itemStepEnd_eq owner keptFrame _ _) ((foundTold_armed ..).trans (searchesCheckedOut_armed s item))

theorem loanFlags_overridden (st : Station) (patron : Code) (minute : Option Nat) (rest : List Code) (s : State) :
    (loanFlags st patron minute (s.afterTaking st rest)).overridden = true ↔ (s.slot st).overridden = true ∧ s.Barred patron := by
  have blocked : (s.afterTaking st rest).isBlocked patron = s.isBlocked patron := rfl
  rw [loanFlags, afterTaking_slot, blocked, Bool.and_eq_true, barred_iff]

theorem CheckoutLends.exec {st : Station} {p : Port} {item patron : Code} {bc : Fin 8} {rest : List Code} {day : Nat}
    {minute : Option Nat} {s : State} (lends : CheckoutLends st item patron bc day minute s) (takes : Takes s st p item rest)
    (serving : (s.slot st).state = .serving) (mode : (s.slot st).mode = some .checkout) (isItem_ : isItem item = true)
    (named : (s.slot st).patron = some patron) (class_ : (s.slot st).patronClass = some bc)
    (room : s.rm.journal.length + ((if (s.flagOf item).isSome then 1 else 0) + (if (s.loanOf item).isSome then 1 else 0) + 1) ≤ 4096) :
    exec (.checkoutStep st) s = .next (checkoutSucceeds st item patron
      ⟨(s.flagOf item).map FlagEntry.flag, s.loanOf item, day, minute⟩ (s.afterTaking st rest)) := by
  have fits : s.hasRoom (CheckoutPlan.records ⟨(s.flagOf item).map FlagEntry.flag, s.loanOf item, day, minute⟩) = true :=
    decide_eq_true (by simpa [CheckoutPlan.records, Config.journalMax] using room)
  rw [exec_checkoutStep takes serving mode isItem_ named, checkoutStepOf, checkoutChecks_afterTaking, lends.checks class_, if_pos fits]

/-- Settles O27: the records in their order, in the state that the taken code leaves. -/
theorem checkoutClearsAndReturnsImplicitly : Obligations.CheckoutClearsAndReturnsImplicitly := by
  unfold Obligations.CheckoutClearsAndReturnsImplicitly
  intro st p item patron bc rest day minute facts s takes serving mode isItem_ named class_ system unbarred flag loan period limit lines
    due clears returns left seq bound room
  have lends : CheckoutLends st item patron bc day minute s := by
    refine ⟨system, unbarred, flagCheck_passes ?_ ?_ ?_, period, loanCheck_passes ?_, limit, lines, facts, due⟩
    · cases entry : s.flagOf item with
      | none => simp
      | some f => rcases flag f entry with k | k <;> simp [k]
    · cases entry : s.flagOf item with
      | none => simp
      | some f => rcases flag f entry with k | k <;> simp [k]
    · rintro ⟨f, entry, reserved, other⟩
      rcases flag f entry with k | k
      · rw [k] at reserved; cases reserved
      · exact other k.2
    · cases entry : s.loanOf item with
      | none => simp
      | some l => simpa using loan l entry
  have step := lends.exec takes serving mode isItem_ named class_ room
  obtain ⟨c, out, rm, slots, stations, frame, told⟩ := checkoutSucceeds_spec takes.owner item patron rest day minute
  generalize checkoutSucceeds st item patron _ _ = t at step rm slots stations frame told
  have numberCleared : (s.rm.nextSeq + clears) % 65536 = s.seqCleared item := by
    simp only [clears, State.seqCleared]
    split <;> omega
  have numberReturned : seq = s.seqReturned item := by
    simp only [seq, clears, returns, State.seqReturned, State.seqCleared]
    split <;> split <;> omega
  have flagOf : ∀ x, t.flagOf x = c.flagOf x := fun x => by rw [State.flagOf, rm]; rfl
  have loanOf : ∀ x, t.loanOf x = c.loanOf x := fun x => by rw [State.loanOf, rm]; rfl
  refine ⟨_, { loanFlags st patron minute (s.afterTaking st rest) with notTabled := decide (8192 ≤ left.length) }, step, ?_, ?_,
    loanFlags_overridden st patron minute rest s, ?_, fun other ne => ?_, ?_, fun other ne => ?_, ?_, slots, stations, frame, told⟩
  · rw [rm, numberCleared, numberReturned]; exact out.journal
  · rfl
  · exact (flagOf item).trans out.unflagged
  · exact (flagOf other).trans (out.flags other ne)
  · rw [numberReturned]; exact (loanOf item).trans out.loan
  · exact (loanOf other).trans (out.loans other ne)
  · rw [rm, numberReturned]
    exact out.rm.trans (by rw [out.seq]; rfl)

/-! ### The searches that a checkout moves (R41) -/

theorem post_search (p q : Port) (e : Event) (s : State) : ((post p e s).port q).search = (s.port q).search := by
  unfold post
  by_cases h : q = p
  · subst h
    rw [State.port, State.putPort, PerPort.get_set_same, PortState.offer]
    split <;> rfl
  · exact congrArg PortState.search (PerPort.get_set_other s.ports ((s.port p).offer e) h)

theorem postStaff_search (q : Port) (e : Event) (s : State) : ((postStaff e s).port q).search = (s.port q).search := by
  unfold postStaff postIfStaff
  split <;> split <;> simp only [post_search]

theorem highWater_search (q : Port) (s : State) : ((highWater s).port q).search = (s.port q).search := by
  unfold highWater
  split
  · exact postStaff_search ..
  · rfl

theorem TellsAtEnd.search {u t : State} (h : TellsAtEnd u t) (q : Port) : (t.port q).search = (u.port q).search := by
  obtain ⟨_, ports⟩ := h
  rw [State.port, ports, endOfStep_eq]
  exact highWater_search q _

theorem moveSearches_search (table : Table) (f : Nat → Nat) (s : State) (q : Port) : ((moveSearches table f s).port q).search =
    (s.port q).search.map (fun x => if x.table = table then { x with position := f x.position } else x) := by
  cases q <;> rfl

theorem rank_eq (loans : List Loan) (k : Nat) : rank Loan.key k loans = (loans.filter (fun l => decide (l.item.toNat < k))).length :=
  List.countP_eq_length_filter

/-- Settles O26: the step of O27 for an item with neither a flag nor a loan. -/
theorem checkoutStepLendsTheItem : Obligations.CheckoutStepLendsTheItem := by
  unfold Obligations.CheckoutStepLendsTheItem
  intro st p item patron bc rest day minute facts s takes serving mode isItem_ named class_ system unbarred flag loan period limit lines
    due room
  have lends : CheckoutLends st item patron bc day minute s :=
    ⟨system, unbarred, by rw [flag]; rfl, period, by rw [loan]; rfl, limit, lines, facts, due⟩
  have step := lends.exec takes serving mode isItem_ named class_ (by simp [flag, loan]; omega)
  obtain ⟨c, out, rm, slots, stations, frame, told⟩ := checkoutSucceeds_spec takes.owner item patron rest day minute
  generalize checkoutSucceeds st item patron _ _ = t at step rm slots stations frame told
  have left : (s.afterTaking st rest).loansWithout item = s.rm.loans := filter_notLent loan
  have number : (s.afterTaking st rest).seqReturned item = s.rm.nextSeq := by
    have noFlag : (s.afterTaking st rest).flagOf item = none := flag
    have noLoan : (s.afterTaking st rest).loanOf item = none := loan
    simp [State.seqReturned, State.seqCleared, noFlag, noLoan]
    rfl
  have loanOf : ∀ x, t.loanOf x = c.loanOf x := fun x => by rw [State.loanOf, rm]; rfl
  have searches : s.searchesCheckedOut item =
      if s.rm.loans.length < 8192 then moveSearches .loans (insertedAt (rank Loan.key item.toNat s.rm.loans)) s else s := by
    rw [State.searchesCheckedOut, searchesLent, show s.loansWithout item = s.rm.loans from left]
    simp [State.searchesReturned, State.searchesUnflagged, flag, loan]
  simp only [flag, foundTold, Option.map_none] at told
  rw [if_neg (by simp), searches] at told
  have journal := out.journal
  have lent := out.loan
  have full := out.full
  have kept := out.flagsKept flag
  rw [left] at journal lent full
  rw [number] at journal lent
  refine ⟨t, { loanFlags st patron minute (s.afterTaking st rest) with notTabled := decide (8192 ≤ s.rm.loans.length) }, step, ?_, ?_, ?_,
    loanFlags_overridden st patron minute rest s, fun fits => ⟨?_, fun other ne => ?_⟩, fun none => ?_, ?_, slots, stations, frame, told,
    fun q => ?_⟩
  · rw [rm, journal, show (s.afterTaking st rest).flagOf item = none from flag, show (s.afterTaking st rest).loanOf item = none from loan]
    simp
    exact ⟨rfl, rfl, rfl⟩
  · rw [rm, out.seq, number]
  · rfl
  · rw [loanOf, lent, if_pos fits]; rfl
  · rw [loanOf]; exact out.loans other ne
  · rw [rm]; exact full none
  · rw [rm]; exact out.rm.trans (by rw [kept]; rfl)
  · rw [told.search q, post_search]
    by_cases fits : s.rm.loans.length < 8192
    · rw [if_pos fits, moveSearches_search, rank_eq]
      refine congrArg (fun f => Option.map f _) (funext fun x => ?_)
      by_cases table : x.table = .loans
      · simp only [table, fits, true_and, if_true, insertedAt]
        split
        · rfl
        · rw [← table]
      · simp [table]
    · simp [fits]

end Sys2Proof.Machine
end

section
/-! PROOF. The fine of a late item with its test; a return step (O28) and a renewal past every check (O30). -/

namespace Sys2Proof.Machine

/-! ### The fine of a loan (R85, R89, R93) -/

/-- What a fine adds to a balance (R89). -/
def addFine (fine : Nat) (x : Nat) : Nat := min (x + fine) 999999

/-- The FINE of a loan, with the records of the test that follows it; a fine of 0 writes none (R85, R90, R92). -/
def State.fineRecordsOf (s : State) (st : Station) (p : Port) (l : Loan) (fine seq : Nat) : List Record :=
  if 0 < fine then
    ⟨seq, .fine, s.clock.day, s.clock.minute, some st, p, { untracked := !s.tracks l.borrower }, some l.borrower, some l.item, none, none,
      some fine, false⟩ ::
      s.blockRecords ((seq + 1) % 65536) (some st) p l.borrower (s.balanceAfter l.borrower (addFine fine))
  else []

/-- The ports after the fine of a loan (R41, R49, R52). -/
def State.finedPorts (s : State) (l : Loan) (fine : Nat) (w : State) : State :=
  if 0 < fine then w.testedPorts l.borrower (s.balanceAfter l.borrower (addFine fine)) else w

/-- The BALANCE TABLE after the fine of a loan (R89). -/
def State.finedBalances (s : State) (l : Loan) (fine : Nat) : List Balance :=
  if 0 < fine then s.balancesCharged l.borrower (addFine fine) else s.rm.balances

/-- What the fine of a loan leaves (R85, R89, R90, R92, R93). -/
structure FineTaken (st : Station) (p : Port) (l : Loan) (fine : Nat) (s t : State) : Prop where
  journal : t.rm.journal = s.rm.journal ++ s.fineRecordsOf st p l fine s.rm.nextSeq
  seq : t.rm.nextSeq = if 0 < fine then (s.rm.nextSeq + (t.rm.journal.length - s.rm.journal.length)) % 65536 else s.rm.nextSeq
  charged : 0 < fine → t.balanceOf l.borrower = s.balanceAfter l.borrower (addFine fine) ∧
    BlocksFollowTest s t l.borrower (s.balanceAfter l.borrower (addFine fine))
  free : fine = 0 → t.rm.blocks = s.rm.blocks
  others : ∀ other, other ≠ l.borrower → t.balanceOf other = s.balanceOf other
  rm : t.rm = { s.rm with
    journal := t.rm.journal, blocks := t.rm.blocks, balances := s.finedBalances l fine, nextSeq := t.rm.nextSeq }
  rest : t = { s with rm := t.rm, ports := (s.finedPorts l fine s).ports }

theorem fineTaken_chargeFine {s : State} {st : Station} {p : Port} (port : s.stepPort st = p) (l : Loan) (fine : Nat) :
    FineTaken st p l fine s (chargeFine st l fine s) := by
  by_cases pos : 0 < fine
  · have charged := charged_writeMoney (some st) p { kind := .fine, station := some st, port := p, item := some l.item } l.borrower fine s
    rw [chargeFine, if_pos pos, chargeMoney, if_pos pos, port]
    generalize runTest (some st) p l.borrower
      (writeMoney { kind := .fine, station := some st, port := p, item := some l.item } l.borrower fine s) = t at charged
    obtain ⟨journal, balance, others, blocks, rm, rest⟩ := charged
    refine ⟨?_, ?_, fun _ => ⟨balance, blocks⟩, fun none => by omega, others, ?_, ?_⟩
    · rw [journal, State.fineRecordsOf, if_pos pos]; rfl
    · rw [if_pos pos]; exact congrArg Collections.nextSeq rm
    · rw [State.finedBalances, if_pos pos]
      have seq : t.rm.nextSeq = _ := congrArg Collections.nextSeq rm
      rw [seq]
      exact rm
    · rw [State.finedPorts, if_pos pos]; exact rest
  · have none : fine = 0 := by omega
    rw [chargeFine, if_neg pos]
    refine ⟨by simp [State.fineRecordsOf, none], by rw [if_neg pos], fun h => absurd h pos, fun _ => rfl, fun _ _ => rfl, ?_, ?_⟩
    · rw [State.finedBalances, if_neg pos]
    · rw [State.finedPorts, if_neg pos]

/-! ### What the fine goes by: the balances, the BLOCK LIST, the settings and the clock -/

section
variable {s u : State} (blocks : u.rm.blocks = s.rm.blocks) (balances : u.rm.balances = s.rm.balances) (config : u.config = s.config)
  (clock : u.clock = s.clock)

include balances in
theorem tracks_congr (b : Code) : u.tracks b = s.tracks b := by
  rw [State.tracks, State.balanceEntry, balances]
  rfl

include balances in
theorem balanceOf_congr (b : Code) : u.balanceOf b = s.balanceOf b := by
  rw [State.balanceOf, State.balanceEntry, balances]
  rfl

include balances in
theorem balanceAfter_congr (b : Code) (f : Nat → Nat) : u.balanceAfter b f = s.balanceAfter b f := by
  rw [State.balanceAfter, tracks_congr balances, balanceOf_congr balances]
  rfl

include balances in
theorem finedBalances_congr (l : Loan) (fine : Nat) : u.finedBalances l fine = s.finedBalances l fine := by
  unfold State.finedBalances State.balancesCharged State.balanceEntry
  rw [balances]

include blocks balances config clock in
theorem fineRecordsOf_congr (st : Station) (p : Port) (l : Loan) (fine seq : Nat) :
    u.fineRecordsOf st p l fine seq = s.fineRecordsOf st p l fine seq := by
  unfold State.fineRecordsOf
  rw [tracks_congr balances, balanceAfter_congr balances, blockRecords_congr blocks config clock, clock]

include balances in
theorem finedPorts_congr {v w : State} (vBlocks : v.rm.blocks = w.rm.blocks) (vConfig : v.config = w.config) (ports : v.ports = w.ports)
    (l : Loan) (fine : Nat) : (u.finedPorts l fine v).ports = (s.finedPorts l fine w).ports := by
  unfold State.finedPorts
  rw [balanceAfter_congr balances]
  split
  · exact testedPorts_congr vBlocks vConfig ports ..
  · exact ports

end

theorem BlocksFollowTest.of_blocks {s t v : State} {b : Code} {n : Nat} (h : BlocksFollowTest s t b n) (blocks : v.rm.blocks = t.rm.blocks) :
    BlocksFollowTest s v b n := by
  have lookup : ∀ c, v.blockOf c = t.blockOf c := fun c => by rw [State.blockOf, blocks]; rfl
  obtain ⟨others, same⟩ := h
  exact ⟨fun other ne => (lookup other).trans (others other ne), (lookup b).trans same⟩

theorem finedPorts_armed (s : State) (l : Loan) (fine : Nat) (w : State) : (s.finedPorts l fine w).armed = w.armed := by
  unfold State.finedPorts
  split
  · exact testedPorts_armed ..
  · rfl

/-! ### A return step (R117, R118) -/

/-- What the owner is told before ITEM-IN (R118). -/
def shelfTold (st : Station) (p : Port) (held : Option Code) (w : State) : State :=
  match held with
  | some b => post p ⟨.holdShelf, some st, some b, none, none⟩ w
  | none => w

theorem shelfTold_armed (st : Station) (p : Port) (held : Option Code) (w : State) : (shelfTold st p held w).armed = w.armed := by
  cases held <;> rfl

/-- The borrower for whom an item is held (R118). -/
def State.heldFor (s : State) (item : Code) : Option Code :=
  (s.flagOf item).bind (fun f => if f.flag = .reserved then f.reserver else none)

/-- The end of a return whose records `c` are written: the state before JOURNAL-HIGH. -/
theorem returnSucceeds_ends {s c w : State} {st : Station} {p : Port} {rest : List Code} (owner : s.owner st = some p) (item : Code)
    (fine : Nat) (fine_eq : ((s.loanOf item).map s.fineOf).getD 0 = fine)
    (records : returned st item (s.loanOf item) fine (s.afterTaking st rest) = c)
    (frame : c = { s.afterTaking st rest with rm := c.rm, ports := w.ports }) :
    returnSucceeds st item (s.afterTaking st rest) = highWater { s with
      rm := c.rm,
      slots := s.slots.set st { (s.afterTaking st rest).slot st with
        draft := (s.slot st).draft ++ [⟨item, .returned, none, fine, s.heldFor item⟩] },
      stations := s.stations.set st { s.station st with scans := rest, overflow := false, indicator := some .accept },
      ports := (post p ⟨.itemIn, some st, some item, some (.amount fine), none⟩ (shelfTold st p (s.heldFor item) w)).ports } := by
  have fines : (((s.afterTaking st rest).loanOf item).map (s.afterTaking st rest).fineOf).getD 0 = fine := fine_eq
  have loan : (s.afterTaking st rest).loanOf item = s.loanOf item := rfl
  have held : ((s.afterTaking st rest).flagOf item).bind (fun f => if f.flag = .reserved then f.reserver else none) = s.heldFor item := rfl
  rw [returnSucceeds_eq]
  dsimp only
  rw [fines, loan, records, held]
  cases s.heldFor item with
  | none => exact congrArg highWater (itemStepEnd_eq owner frame _ _)
  | some b =>
    have owned : c.owner st = some p := by rw [frame]; exact owner
    dsimp only
    rw [postOwner_addLine owned]
    exact congrArg highWater (itemStepEnd_eq (c := post p (stationEvent .holdShelf st (some b)) c) owner (post_told frame p _) _ _)

/-- The refusals of a return, and its success (R117). -/
theorem returnStepOf_eq {s : State} {st : Station} {p : Port} {rest : List Code} (owner : s.owner st = some p) (item : Code) (needed : Nat)
    (records : s.returnRecords st item = needed) :
    (32 ≤ (s.slot st).draft.length →
      returnStepOf st item (s.afterTaking st rest) = (s.afterTaking st rest).refusedWith st p item .transactionFull) ∧
    ((s.slot st).draft.length < 32 → 4096 < s.rm.journal.length + needed →
      returnStepOf st item (s.afterTaking st rest) = (s.afterTaking st rest).refusedWith st p item .journalFull) ∧
    ((s.slot st).draft.length < 32 → s.rm.journal.length + needed ≤ 4096 →
      returnStepOf st item (s.afterTaking st rest) = returnSucceeds st item (s.afterTaking st rest)) := by
  have owned : (s.afterTaking st rest).owner st = some p := owner
  have draft : ((s.afterTaking st rest).slot st).draft = (s.slot st).draft := by rw [afterTaking_slot]
  have counted : (s.afterTaking st rest).returnRecords st item = needed := by
    rw [← records]
    unfold State.returnRecords
    simp only [fineRecords_eq]
    rfl
  unfold returnStepOf
  rw [draft, counted, refuseStep_eq owned, refuseStep_eq owned]
  refine ⟨fun full => if_pos full, fun lines full => ?_, fun lines room => ?_⟩
  · rw [if_neg (show ¬ Config.linesMax ≤ _ from Nat.not_le.mpr lines)]
    exact if_neg fun h => absurd (of_decide_eq_true h) (Nat.not_le.mpr full)
  · rw [if_neg (show ¬ Config.linesMax ≤ _ from Nat.not_le.mpr lines)]
    exact if_pos (decide_eq_true room)

/-- The return of an item without a loan: one RETURN, FOREIGN or UNKNOWN (R118). -/
theorem writeReturn_none {s : State} {st : Station} {p : Port} (port : s.stepPort st = p) (item : Code) :
    writeReturn st item none s = { s with rm := { s.rm with
      journal := s.rm.journal ++ [⟨s.rm.nextSeq, .returned, s.clock.day, s.clock.minute, some st, p,
        if systemOf item = s.config.system then { unknown := true } else { foreign := true }, none, some item, none, none, none, false⟩],
      nextSeq := (s.rm.nextSeq + 1) % 65536 } } := by
  unfold writeReturn
  dsimp only
  rw [port]
  by_cases own : systemOf item = s.config.system
  · rw [if_neg (not_not.mpr own), if_pos own]; rfl
  · rw [if_pos own, if_neg own]; rfl

/-- The return of a loan: it leaves the LOAN TABLE, and the RETURN carries its borrower (R118). -/
structure LoanTaken (st : Station) (p : Port) (item : Code) (l : Loan) (s t : State) : Prop where
  journal : t.rm.journal = s.rm.journal ++ [⟨s.rm.nextSeq, .returned, s.clock.day, s.clock.minute, some st, p, {}, some l.borrower,
    some item, none, none, none, false⟩]
  seq : t.rm.nextSeq = (s.rm.nextSeq + 1) % 65536
  gone : t.loanOf item = none
  loans : ∀ other, other ≠ item → t.loanOf other = s.loanOf other
  rm : t.rm = { s.rm with journal := t.rm.journal, loans := t.rm.loans, nextSeq := t.rm.nextSeq }
  rest : t = { s with rm := t.rm, ports := (moveSearches .loans (removedAt (rank Loan.key item.toNat s.rm.loans)) s).ports }

theorem loanTaken_writeReturn {s : State} {st : Station} {p : Port} (port : s.stepPort st = p) {item : Code} {l : Loan}
    (loan : s.loanOf item = some l) : LoanTaken st p item l s (writeReturn st item (some l) s) := by
  have frame := removeLoan_frame item s
  rw [if_pos (by rw [loan]; simp)] at frame
  have gone := removeLoan_loanOf item s
  have others : ∀ other, other ≠ item → (removeLoan item s).loanOf other = s.loanOf other :=
    fun other ne => removeLoan_loanOf_other ne s
  unfold writeReturn
  dsimp only
  rw [port]
  generalize removeLoan item s = v at frame gone others
  rw [writeRecord_eq]
  refine ⟨?_, ?_, gone, others, ?_, ?_⟩
  · rw [frame]; rfl
  · rw [frame]
  · rw [frame]
  · rw [frame]

/-- A return of an item without a loan, to the end of its step (R118). -/
theorem returnStep_unlent {s : State} {st : Station} {p : Port} {rest : List Code} (owner : s.owner st = some p) {item : Code}
    (unlent : s.loanOf item = none) :
    returnSucceeds st item (s.afterTaking st rest) =
      ({ post p ⟨.itemIn, some st, some item, some (.amount 0), none⟩ (shelfTold st p (s.heldFor item) s) with
        rm := { s.rm with
          journal := s.rm.journal ++ [⟨s.rm.nextSeq, .returned, s.clock.day, s.clock.minute, some st, p,
            if systemOf item = s.config.system then { unknown := true } else { foreign := true }, none, some item, none, none,
            none, false⟩],
          nextSeq := (s.rm.nextSeq + 1) % 65536 },
        slots := s.slots.set st { (s.afterTaking st rest).slot st with
          draft := (s.slot st).draft ++ [⟨item, .returned, none, 0, s.heldFor item⟩] },
        stations := s.stations.set st { s.station st with
          scans := rest, overflow := false, indicator := some .accept } } : State).endOfStep := by
  have owned : (s.afterTaking st rest).owner st = some p := owner
  have written := writeReturn_none (stepPort_owner owned) item
  have ends := returnSucceeds_ends (w := s) (c := writeReturn st item none (s.afterTaking st rest)) owner item 0 (by rw [unlent]; rfl)
    (by rw [unlent]; rfl) (by rw [written]; rfl)
  rw [ends, written, endOfStep_eq]
  refine congrArg highWater ?_
  cases s.heldFor item with
  | none => rfl
  | some b => rfl

/-- A return of a loan, to the end of its step (R118). -/
theorem returnStep_lent {s : State} {st : Station} {p : Port} {rest : List Code} (owner : s.owner st = some p) {item : Code} {l : Loan}
    (loan : s.loanOf item = some l) :
    let fine := s.fineOf l
    let t := returnSucceeds st item (s.afterTaking st rest)
    t.rm.journal = s.rm.journal ++
      [⟨s.rm.nextSeq, .returned, s.clock.day, s.clock.minute, some st, p, {}, some l.borrower, some item, none, none, none, false⟩] ++
      s.fineRecordsOf st p l fine ((s.rm.nextSeq + 1) % 65536) ∧
    t.loanOf item = none ∧ (∀ other, other ≠ item → t.loanOf other = s.loanOf other) ∧
    (0 < fine → t.balanceOf l.borrower = s.balanceAfter l.borrower (addFine fine) ∧
      BlocksFollowTest s t l.borrower (s.balanceAfter l.borrower (addFine fine))) ∧
    (fine = 0 → t.rm.blocks = s.rm.blocks) ∧ (∀ other, other ≠ l.borrower → t.balanceOf other = s.balanceOf other) ∧
    t.rm = { s.rm with
      journal := t.rm.journal, loans := t.rm.loans, blocks := t.rm.blocks, balances := s.finedBalances l fine,
      nextSeq := (s.rm.nextSeq + (t.rm.journal.length - s.rm.journal.length)) % 65536 } ∧
    t.slots = s.slots.set st { (s.afterTaking st rest).slot st with
      draft := (s.slot st).draft ++ [⟨item, .returned, none, fine, s.heldFor item⟩] } ∧
    t.stations = s.stations.set st { s.station st with scans := rest, overflow := false, indicator := some .accept } ∧
    t = { s with rm := t.rm, slots := t.slots, stations := t.stations, ports := t.ports, armed := t.armed } ∧
    TellsAtEnd (post p ⟨.itemIn, some st, some item, some (.amount fine), none⟩ (shelfTold st p (s.heldFor item)
      (s.finedPorts l fine (moveSearches .loans (removedAt (rank Loan.key item.toNat s.rm.loans)) s)))) t := by
  intro fine
  have owned : (s.afterTaking st rest).owner st = some p := owner
  have taken := loanTaken_writeReturn (stepPort_owner owned) (show (s.afterTaking st rest).loanOf item = some l from loan)
  obtain ⟨a, a_eq⟩ : ∃ a, writeReturn st item (some l) (s.afterTaking st rest) = a := ⟨_, rfl⟩
  rw [a_eq] at taken
  obtain ⟨journalA, seqA, gone, loansA, rmA, restA⟩ := taken
  have ownerA : a.owner st = some p := by rw [restA]; exact owner
  have fined := fineTaken_chargeFine (stepPort_owner ownerA) l fine
  obtain ⟨c, c_eq⟩ : ∃ c, chargeFine st l fine a = c := ⟨_, rfl⟩
  rw [c_eq] at fined
  have blocks : a.rm.blocks = s.rm.blocks := by rw [rmA]; rfl
  have balances : a.rm.balances = s.rm.balances := by rw [rmA]; rfl
  have config : a.config = s.config := by rw [restA]; rfl
  have clock : a.clock = s.clock := by rw [restA]; rfl
  obtain ⟨journal, seq, charged, free, others, rm, frame⟩ := fined
  rw [fineRecordsOf_congr blocks balances config clock] at journal
  rw [finedBalances_congr balances] at rm
  have ports : (a.finedPorts l fine a).ports =
      (s.finedPorts l fine (moveSearches .loans (removedAt (rank Loan.key item.toNat s.rm.loans)) s)).ports :=
    finedPorts_congr (w := moveSearches .loans (removedAt (rank Loan.key item.toNat s.rm.loans)) s) balances blocks config
      (by rw [restA]; rfl) l fine
  have whole : c = { s.afterTaking st rest with
      rm := c.rm
      ports := (s.finedPorts l fine (moveSearches .loans (removedAt (rank Loan.key item.toNat s.rm.loans)) s)).ports } := by
    rw [ports] at frame
    exact frame.trans (by rw [restA])
  have ends := returnSucceeds_ends owner item fine (by rw [loan]; rfl) (c := c)
    (by rw [loan, returned, a_eq, c_eq]) whole
  obtain ⟨rmT, slots, stations, rest_, told⟩ := stepEnds_of (s := s) rfl (show State.armed (post p
      ⟨.itemIn, some st, some item, some (.amount fine), none⟩ (shelfTold st p (s.heldFor item)
      (s.finedPorts l fine (moveSearches .loans (removedAt (rank Loan.key item.toNat s.rm.loans)) s)))) = s.armed from
    (shelfTold_armed ..).trans (finedPorts_armed ..))
  rw [← ends] at rmT slots stations rest_ told
  dsimp only
  generalize returnSucceeds st item (s.afterTaking st rest) = t at rmT slots stations rest_ told
  have loansC : c.rm.loans = a.rm.loans := by rw [rm]
  have loanOf : ∀ x, t.loanOf x = a.loanOf x := fun x => by rw [State.loanOf, rmT, loansC]; rfl
  have lookups : ∀ x, t.balanceOf x = c.balanceOf x ∧ t.blockOf x = c.blockOf x := fun x =>
    ⟨balanceOf_congr (by rw [rmT]) x, by rw [State.blockOf, rmT]; rfl⟩
  have blocksA : ∀ x, a.blockOf x = s.blockOf x := fun x => by rw [State.blockOf, blocks]; rfl
  refine ⟨?_, (loanOf item).trans gone, fun other ne => (loanOf other).trans (loansA other ne), fun pos => ?_, fun none => ?_,
    fun other ne => ?_, ?_, slots, stations, rest_, told⟩
  · rw [rmT, journal, journalA, seqA]; rfl
  · obtain ⟨balance, tested⟩ := charged pos
    rw [balanceAfter_congr balances] at balance tested
    exact ⟨(lookups _).1.trans balance, ((blocksFollowTest_congr blocks config clock _ _).mp tested).of_blocks (by rw [rmT])⟩
  · rw [rmT, free none, blocks]
  · rw [(lookups other).1, others other ne, balanceOf_congr balances]
  · have lengthA : a.rm.journal.length = s.rm.journal.length + 1 := by rw [journalA]; simp; rfl
    have lengthC := congrArg List.length journal
    have seqC : c.rm.nextSeq = (s.rm.nextSeq + (c.rm.journal.length - s.rm.journal.length)) % 65536 := by
      have start : a.rm.nextSeq = (s.rm.nextSeq + 1) % 65536 := seqA
      rw [List.length_append] at lengthC
      rw [seq, start]
      split
      · omega
      · rename_i none
        rw [State.fineRecordsOf, if_neg none] at lengthC
        rw [lengthC, lengthA]
        simp
    rw [rmT, ← seqC]
    exact rm.trans (by rw [loansC, rmA]; rfl)

/-- Settles O28: the refusals, an item without a loan, and a loan with its fine. -/
theorem returnStepTakesTheItemIn : Obligations.ReturnStepTakesTheItemIn := by
  unfold Obligations.ReturnStepTakesTheItemIn
  refine ⟨fun st p item rest s takes returning isItem_ unlent => ?unlent, fun st p item rest l s takes returning isItem_ loan => ?lent⟩
  case unlent =>
    intro u held
    have step := exec_returnStep takes returning isItem_
    obtain ⟨full, noRoom, succeeds⟩ := returnStepOf_eq (rest := rest) takes.owner item 1
      (by rw [State.returnRecords, unlent])
    refine ⟨fun lines => step.trans (congrArg _ (full lines)), fun lines room => step.trans (congrArg _ (noRoom lines (by omega))),
      fun lines room => ?_⟩
    intro shelved v
    exact step.trans (congrArg _ ((succeeds lines (by omega)).trans (returnStep_unlent takes.owner unlent)))
  case lent =>
    intro u fine b held after needed next
    have step := exec_returnStep takes returning isItem_
    have records : s.returnRecords st item = needed := by
      rw [State.returnRecords, loan]
      dsimp only
      rw [fineRecords_eq]
      simp only [needed, after, fine, b]
      split <;> omega
    obtain ⟨full, noRoom, succeeds⟩ := returnStepOf_eq (rest := rest) takes.owner item needed records
    refine ⟨fun lines => step.trans (congrArg _ (full lines)), fun lines room => step.trans (congrArg _ (noRoom lines room)),
      fun lines room => ?_⟩
    have spec := returnStep_lent (rest := rest) takes.owner loan
    dsimp only at spec
    obtain ⟨journal, others⟩ := spec
    refine ⟨_, step.trans (congrArg _ (succeeds lines room)), ?_, others⟩
    have item_ : l.item = item := BitVec.eq_of_toNat_eq (lookupBy_some Loan.key loan).2
    have two : ((s.rm.nextSeq + 1) % 65536 + 1) % 65536 = next 2 := by
      simp only [next]
      omega
    rw [journal, State.fineRecordsOf, item_, two]
    rfl

/-! ### A renewal past every check (R120) -/

/-- The records of a renewal, to the end of its step (R27, R120). -/
theorem renewStep_spec {s : State} {st : Station} {p : Port} {rest : List Code} (owner : s.owner st = some p) {item patron : Code}
    {l : Loan} (loan : s.loanOf item = some l) (day : Nat) (minute : Option Nat) :
    let fine := s.fineOf l
    let flags := loanFlags st patron minute (s.afterTaking st rest)
    let seq := if 0 < fine then (s.rm.nextSeq + (s.fineRecordsOf st p l fine s.rm.nextSeq).length) % 65536 else s.rm.nextSeq
    let t := renewSucceeds st item patron ⟨l, day, minute⟩ (s.afterTaking st rest)
    t.rm.journal = s.rm.journal ++ s.fineRecordsOf st p l fine s.rm.nextSeq ++
      [⟨seq, .renewed, s.clock.day, s.clock.minute, some st, p, flags, some patron, some item, some day, minute, none, false⟩] ∧
    t.loanOf item = some { l with dueDay := day, dueMinute := minute, renewals := l.renewals + 1, seq := seq } ∧
    (∀ other, other ≠ item → t.loanOf other = s.loanOf other) ∧ t.rm.loans.length = s.rm.loans.length ∧
    (0 < fine → t.balanceOf l.borrower = s.balanceAfter l.borrower (addFine fine) ∧
      BlocksFollowTest s t l.borrower (s.balanceAfter l.borrower (addFine fine))) ∧
    (fine = 0 → t.rm.blocks = s.rm.blocks) ∧ (∀ other, other ≠ l.borrower → t.balanceOf other = s.balanceOf other) ∧
    t.rm = { s.rm with
      journal := t.rm.journal, loans := t.rm.loans, blocks := t.rm.blocks, balances := s.finedBalances l fine,
      nextSeq := (seq + 1) % 65536 } ∧
    t.slots = s.slots.set st { (s.afterTaking st rest).slot st with
      draft := (s.slot st).draft ++ [⟨item, .renewed, some (day, minute), fine, none⟩] } ∧
    t.stations = s.stations.set st { s.station st with scans := rest, overflow := false, indicator := some .accept } ∧
    t = { s with rm := t.rm, slots := t.slots, stations := t.stations, ports := t.ports, armed := t.armed } ∧
    TellsAtEnd (post p ⟨.itemRenewed, some st, some item, some (.due day minute), none⟩ (s.finedPorts l fine s)) t := by
  intro fine flags seq
  have port : (s.afterTaking st rest).stepPort st = p := by
    rw [State.stepPort, show (s.afterTaking st rest).owner st = some p from owner]; rfl
  have fined := fineTaken_chargeFine (s := s.afterTaking st rest) (stepPort_owner owner) l fine
  obtain ⟨a, a_eq⟩ : ∃ a, chargeFine st l fine (s.afterTaking st rest) = a := ⟨_, rfl⟩
  rw [a_eq] at fined
  obtain ⟨journal, seqA, charged, free, others, rm, frame⟩ := fined
  rw [fineRecordsOf_congr (u := s.afterTaking st rest) (s := s) rfl rfl rfl rfl] at journal
  rw [finedBalances_congr (u := s.afterTaking st rest) (s := s) rfl] at rm
  have ports : ((s.afterTaking st rest).finedPorts l fine (s.afterTaking st rest)).ports = (s.finedPorts l fine s).ports :=
    finedPorts_congr (u := s.afterTaking st rest) (v := s.afterTaking st rest) (s := s) (w := s) rfl rfl rfl rfl l fine
  rw [ports] at frame
  have number : a.rm.nextSeq = seq := by
    have length := congrArg List.length journal
    rw [List.length_append] at length
    rw [seqA]
    simp only [seq]
    split
    · rw [length, Nat.add_sub_cancel_left]; rfl
    · rfl
  have clock : a.clock = s.clock := by rw [frame]; rfl
  obtain ⟨c, c_eq⟩ : ∃ c, renewed st item patron ⟨l, day, minute⟩ flags fine (s.afterTaking st rest) = c := ⟨_, rfl⟩
  have written : c = { a with rm := { a.rm with
      journal := a.rm.journal ++
        [⟨seq, .renewed, s.clock.day, s.clock.minute, some st, p, flags, some patron, some item, some day, minute, none, false⟩],
      nextSeq := (seq + 1) % 65536,
      loans := replaceBy Loan.key { l with dueDay := day, dueMinute := minute, renewals := l.renewals + 1, seq := seq } a.rm.loans } } := by
    rw [← c_eq, renewed]
    dsimp only
    rw [a_eq, port, writeRecord_eq, ← number, ← clock]
    rfl
  have whole : c = { s.afterTaking st rest with
      rm := c.rm
      ports := (s.finedPorts l fine s).ports } := by
    rw [written, frame]
  have ends := stepEnds_of (itemStepEnd_eq owner whole ⟨item, .renewed, some (day, minute), fine, none⟩
    ⟨.itemRenewed, some st, some item, some (.due day minute), none⟩) (show State.armed (post p _ (s.finedPorts l fine s)) = s.armed from
      finedPorts_armed ..)
  have step : renewSucceeds st item patron ⟨l, day, minute⟩ (s.afterTaking st rest) = highWater (tone st .accept (postOwner st
      ⟨.itemRenewed, some st, some item, some (.due day minute), none⟩
      (addLine st ⟨item, .renewed, some (day, minute), fine, none⟩ c))) := by
    rw [renewSucceeds_eq, ← c_eq]
    rfl
  dsimp only at ends
  rw [← step] at ends
  obtain ⟨rmT, slots, stations, rest_, told⟩ := ends
  dsimp only
  generalize renewSucceeds st item patron ⟨l, day, minute⟩ (s.afterTaking st rest) = t at rmT slots stations rest_ told
  have loansA : a.rm.loans = s.rm.loans := by rw [rm]; rfl
  have item_ : l.item = item := BitVec.eq_of_toNat_eq (lookupBy_some Loan.key loan).2
  have loansT : t.rm.loans =
      replaceBy Loan.key { l with dueDay := day, dueMinute := minute, renewals := l.renewals + 1, seq := seq } s.rm.loans := by
    rw [rmT, written, ← loansA]
  have blocksT : t.rm.blocks = a.rm.blocks := by rw [rmT, written]
  have balancesT : t.rm.balances = a.rm.balances := by rw [rmT, written]
  have key : Loan.key { l with dueDay := day, dueMinute := minute, renewals := l.renewals + 1, seq := seq } = item.toNat := by
    rw [← item_]; rfl
  refine ⟨?_, ?_, fun other ne => ?_, ?_, fun pos => ?_, fun none => ?_, fun other ne => ?_, ?_, slots, stations, rest_, told⟩
  · rw [rmT, written, journal]; rfl
  · rw [State.loanOf, loansT, ← key]
    refine lookupBy_replaceBy_same Loan.key _ ?_
    rw [key, show lookupBy Loan.key item.toNat s.rm.loans = some l from loan]
    simp
  · rw [State.loanOf, loansT]
    exact lookupBy_replaceBy_other Loan.key _ (by rw [key]; exact fun e => ne (BitVec.eq_of_toNat_eq e)) _
  · rw [loansT, length_replaceBy]
  · obtain ⟨balance, tested⟩ := charged pos
    exact ⟨(balanceOf_congr balancesT _).trans balance,
      ((blocksFollowTest_congr (u := s.afterTaking st rest) (s := s) rfl rfl rfl _ _).mp tested).of_blocks blocksT⟩
  · rw [blocksT]; exact free none
  · exact (balanceOf_congr balancesT _).trans (others other ne)
  · rw [rmT, written]
    exact congrArg (fun x : Collections => { x with
      journal := a.rm.journal ++
        [(⟨seq, .renewed, s.clock.day, s.clock.minute, some st, p, flags, some patron, some item, some day, minute, none, false⟩ : Record)]
      nextSeq := (seq + 1) % 65536
      loans := replaceBy Loan.key { l with dueDay := day, dueMinute := minute, renewals := l.renewals + 1, seq := seq } a.rm.loans })
      rm

/-- Settles O30: the renewal passes every check, and its records are those of the state that the taken code leaves. -/
theorem renewStepRenewsTheLoan : Obligations.RenewStepRenewsTheLoan := by
  unfold Obligations.RenewStepRenewsTheLoan
  intro st p item patron rest l day minute facts s takes serving mode isItem_ named system unbarred loan yours unreserved renewals lines
    due fine after needed block seq room
  have allowed : RenewAllowed st item patron l s := ⟨system, unbarred, loan, yours, unreserved, renewals, lines⟩
  have records : s.fineRecords st l (s.fineOf l) + 1 = needed := by
    rw [fineRecords_eq, yours]
    simp only [needed, after, fine]
    split <;> omega
  have checks := allowed.checks
  rw [(renewalDue_eq s l).trans due] at checks
  dsimp only at checks
  rw [records, if_pos (show s.hasRoom needed = true from decide_eq_true room)] at checks
  have step := exec_renewStep takes serving mode isItem_ named
  rw [renewStepOf, renewChecks_afterTaking, checks] at step
  have item_ : l.item = item := BitVec.eq_of_toNat_eq (lookupBy_some Loan.key loan).2
  have spec := renewStep_spec (patron := patron) (rest := rest) takes.owner loan day minute
  dsimp only at spec
  have fineRecords : s.fineRecordsOf st p l (s.fineOf l) s.rm.nextSeq = if 0 < fine then
      ⟨s.rm.nextSeq, .fine, s.clock.day, s.clock.minute, some st, p, { untracked := !s.tracks patron }, some patron, some item, none,
        none, some fine, false⟩ :: block else [] := by
    rw [State.fineRecordsOf, item_, yours]
    rfl
  have number : (if 0 < fine then (s.rm.nextSeq + (s.fineRecordsOf st p l (s.fineOf l) s.rm.nextSeq).length) % 65536 else s.rm.nextSeq) =
      seq := by
    rw [fineRecords]
    simp only [seq]
    split
    · rw [List.length_cons, Nat.add_assoc, Nat.add_comm block.length 1]
    · rfl
  rw [number, fineRecords] at spec
  obtain ⟨journal, renewed, others, length, charged, free, balances, rm, rest_⟩ := spec
  refine ⟨_, loanFlags st patron minute (s.afterTaking st rest), step, journal, rfl, loanFlags_overridden .., renewed, others, length,
    ?_, free, ?_, ?_, ?_⟩
  · rw [yours] at charged; exact charged
  · rw [yours] at balances; exact balances
  · rw [State.finedBalances, yours] at rm; exact rm
  · rw [State.finedPorts, yours] at rest_; exact rest_

end Sys2Proof.Machine
end

section
/-! PROOF. What holds of every item step: whole or not at all, and no loan to a barred borrower without the override (O33). -/

namespace Sys2Proof.Machine

/-! ### The steps by the code that they take -/

theorem taken_slot (st : Station) (s : State) : (takeCode st s).slot st =
    { s.slot st with timer := if (s.stationConfig st).timeout = 0 then none else some (s.stationConfig st).timeout } := by
  exact PerStation.get_set_same ..

/-- A checkout step does nothing, or handles the code that the slot takes. -/
theorem onCheckoutStep_acts (st : Station) (s : State) : onCheckoutStep st s = s ∨ ∃ c patron, s.codeToTake st = some c ∧
    (s.slot st).patron = some patron ∧ onCheckoutStep st s = checkoutStepOf st c patron (takeCode st s) := by
  cases take : s.codeToTake st with
  | none => exact .inl (by rw [onCheckoutStep, take])
  | some c =>
    cases named : (s.slot st).patron with
    | none => exact .inl (by rw [onCheckoutStep, take, named])
    | some patron =>
      have rule : onCheckoutStep st s = if (s.slot st).state = .serving ∧ (s.slot st).mode = some .checkout ∧ isItem c = true then
          checkoutStepOf st c patron (takeCode st s) else s := by rw [onCheckoutStep, take, named]
      rw [rule]
      split
      · exact .inr ⟨c, patron, rfl, rfl, rfl⟩
      · exact .inl rfl

/-- A renew step does nothing, or handles the code that the slot takes. -/
theorem onRenewStep_acts (st : Station) (s : State) : onRenewStep st s = s ∨ ∃ c patron, s.codeToTake st = some c ∧
    (s.slot st).patron = some patron ∧ onRenewStep st s = renewStepOf st c patron (takeCode st s) := by
  cases take : s.codeToTake st with
  | none => exact .inl (by rw [onRenewStep, take])
  | some c =>
    cases named : (s.slot st).patron with
    | none => exact .inl (by rw [onRenewStep, take, named])
    | some patron =>
      have rule : onRenewStep st s = if (s.slot st).state = .serving ∧ (s.slot st).mode = some .renewing ∧ isItem c = true then
          renewStepOf st c patron (takeCode st s) else s := by rw [onRenewStep, take, named]
      rw [rule]
      split
      · exact .inr ⟨c, patron, rfl, rfl, rfl⟩
      · exact .inl rfl

/-- A return step does nothing, or handles the code that the slot takes. -/
theorem onReturnStep_acts (st : Station) (s : State) : onReturnStep st s = s ∨ ∃ c, s.codeToTake st = some c ∧
    onReturnStep st s = returnStepOf st c (takeCode st s) := by
  cases take : s.codeToTake st with
  | none => exact .inl (by rw [onReturnStep, take])
  | some c =>
    have rule : onReturnStep st s = if (s.slot st).state = .returning ∧ isItem c = true then returnStepOf st c (takeCode st s) else s := by
      rw [onReturnStep, take]
    rw [rule]
    split
    · exact .inr ⟨c, rfl, rfl⟩
    · exact .inl rfl

/-! ### Whole or not at all (R35, R108) -/

/-- A step that changed neither the collections nor what the slot holds for its transaction. -/
structure Undone (st : Station) (s t : State) : Prop where
  rm : t.rm = s.rm
  draft : (t.slot st).draft = (s.slot st).draft
  overridden : (t.slot st).overridden = (s.slot st).overridden
  patron : (t.slot st).patron = (s.slot st).patron

/-- A step that wrote records and added the line of a code. -/
structure Done (st : Station) (c : Code) (s t : State) : Prop where
  grows : s.rm.journal.length < t.rm.journal.length
  line : ∃ line : ItemLine, (t.slot st).draft = (s.slot st).draft ++ [line] ∧ line.item = c

theorem postOwner_slots (st : Station) (e : Event) (s : State) : (postOwner st e s).slots = s.slots := by rw [(postOwner_same st e s).eq]

theorem undone_refuseStep (st : Station) (c : Code) (r : Refuse) (s : State) : Undone st s (refuseStep st c r s) := by
  have slot : (refuseStep st c r s).slot st = s.slot st := congrArg (PerStation.get · st) (postOwner_slots st _ s)
  exact ⟨postOwner_rm .., by rw [slot], by rw [slot], by rw [slot]⟩

theorem undone_blockedStep (st : Station) (c patron : Code) (s : State) : Undone st s (blockedStep st c patron s) := by
  have slots : (blockedStep st c patron s).slots = (reportRefusal st c .blocked s).slots.set st
      { (reportRefusal st c .blocked s).slot st with state := .patronBlocked } := postOwner_slots st _ _
  have first : (reportRefusal st c .blocked s).slots = s.slots := postOwner_slots st _ s
  have slot : (blockedStep st c patron s).slot st = { s.slot st with state := .patronBlocked } := by
    rw [State.slot, slots, PerStation.get_set_same, State.slot, first]
    rfl
  refine ⟨?_, by rw [slot], by rw [slot], by rw [slot]⟩
  exact (postOwner_rm st _ _).trans (postOwner_rm st _ s)

/-- An item step's end adds its line to the draft, after the records of `c`. -/
theorem done_told {s c v : State} {st : Station} {line : ItemLine} {e : Event} (slots : c.slots = s.slots)
    (grows : s.rm.journal.length < c.rm.journal.length) (between : v.rm = c.rm ∧ v.slots = (addLine st line c).slots) :
    Done st line.item s (highWater (tone st .accept (postOwner st e v))) := by
  obtain ⟨rm, added⟩ := between
  have kept : (highWater (tone st .accept (postOwner st e v))).slots = (addLine st line c).slots := by
    rw [highWater_frame, ← added]
    exact postOwner_slots st e v
  refine ⟨?_, line, ?_, rfl⟩
  · rw [highWater_rm]
    exact grows.trans_eq (congrArg (fun x : Collections => x.journal.length) ((postOwner_rm st e v).trans rm)).symm
  · rw [State.slot, kept]
    simp [addLine, State.putSlot, State.slot, slots]

theorem done_checkoutSucceeds {st : Station} {item patron : Code} {plan : CheckoutPlan} (s : State) :
    Done st item s (checkoutSucceeds st item patron plan s) := by
  have slots : (lent st item patron plan (loanFlags st patron plan.dueMinute s) s).slots = s.slots := by
    rw [lent_same st item patron plan (loanFlags st patron plan.dueMinute s) s]
  have grows : s.rm.journal.length < (lent st item patron plan (loanFlags st patron plan.dueMinute s) s).rm.journal.length := by
    rw [lent_length, CheckoutPlan.records]
    omega
  refine done_told (line := ⟨item, .out, some (plan.dueDay, plan.dueMinute), 0, none⟩) slots grows ?_
  split
  · exact ⟨postOwner_rm .., postOwner_slots ..⟩
  · exact ⟨rfl, rfl⟩

theorem returned_grows (st : Station) (item : Code) (loan : Option Loan) (fine : Nat) (s : State) :
    s.rm.journal.length < (returned st item loan fine s).rm.journal.length := by
  have written := writeReturn_length st item loan s
  unfold returned
  split
  · rename_i l
    have fined := congrArg List.length (fineTaken_chargeFine (st := st) (s := writeReturn st item (some l) s) rfl l fine).journal
    rw [List.length_append] at fined
    omega
  · omega

theorem done_returnSucceeds (st : Station) (item : Code) (s : State) : Done st item s (returnSucceeds st item s) := by
  have slots : (returned st item (s.loanOf item) (((s.loanOf item).map s.fineOf).getD 0) s).slots = s.slots := by
    rw [returned_same st item (s.loanOf item) (((s.loanOf item).map s.fineOf).getD 0) s]
  rw [returnSucceeds_eq]
  refine done_told (line := ⟨item, .returned, none, ((s.loanOf item).map s.fineOf).getD 0,
    (s.flagOf item).bind (fun f => if f.flag = .reserved then f.reserver else none)⟩) slots (returned_grows ..) ?_
  split
  · exact ⟨postOwner_rm .., postOwner_slots ..⟩
  · exact ⟨rfl, rfl⟩

/-- The records of a renewal: those of its fine, and RENEW (R120). -/
theorem renewed_journal (st : Station) (item patron : Code) (plan : RenewPlan) (flags : RecordFlags) (fine : Nat) (s : State) :
    ∃ seq, (renewed st item patron plan flags fine s).rm.journal = s.rm.journal ++
      s.fineRecordsOf st (s.stepPort st) plan.loan fine s.rm.nextSeq ++
      [⟨seq, .renewed, s.clock.day, s.clock.minute, some st, s.stepPort st, flags, some patron, some item, some plan.dueDay,
        plan.dueMinute, none, false⟩] := by
  have fined := fineTaken_chargeFine (s := s) (st := st) rfl plan.loan fine
  have clock : (chargeFine st plan.loan fine s).clock = s.clock := by rw [fined.rest]
  refine ⟨(chargeFine st plan.loan fine s).rm.nextSeq, ?_⟩
  rw [← fined.journal, ← clock]
  rfl

theorem done_renewSucceeds (st : Station) (item patron : Code) (plan : RenewPlan) (s : State) :
    Done st item s (renewSucceeds st item patron plan s) := by
  have slots : (renewed st item patron plan (loanFlags st patron plan.dueMinute s) (s.fineOf plan.loan) s).slots = s.slots := by
    rw [renewed_same st item patron plan (loanFlags st patron plan.dueMinute s) (s.fineOf plan.loan) s]
  obtain ⟨seq, journal⟩ := renewed_journal st item patron plan (loanFlags st patron plan.dueMinute s) (s.fineOf plan.loan) s
  rw [renewSucceeds_eq]
  refine done_told (line := ⟨item, .renewed, some (plan.dueDay, plan.dueMinute), s.fineOf plan.loan, none⟩) slots ?_ ⟨rfl, rfl⟩
  rw [journal]
  simp only [List.length_append, List.length_singleton]
  omega

/-! ### No loan to a barred borrower without the override (R114) -/

/-- A record lends nothing, or lends to the patron of the slot, who is not barred but by the override. -/
def Record.LentLawfully (st : Station) (s : State) (r : Record) : Prop :=
  r.kind = .checkout ∨ r.kind = .renewed →
    ∃ b, r.borrower = some b ∧ (s.slot st).patron = some b ∧ (s.Barred b → (s.slot st).overridden = true ∧ r.flags.overridden = true)

theorem fineRecordsOf_kind {s : State} {st : Station} {p : Port} {l : Loan} {fine seq : Nat} {r : Record}
    (h : r ∈ s.fineRecordsOf st p l fine seq) : r.kind ≠ .checkout ∧ r.kind ≠ .renewed := by
  unfold State.fineRecordsOf at h
  split at h
  · rcases List.mem_cons.mp h with rfl | h
    · simp
    · unfold State.blockRecords at h
      split at h
      · split at h
        · rw [List.mem_singleton.mp h]; simp
        · cases h
      · rw [List.mem_singleton.mp h]; simp
      · cases h
  · cases h

/-- The loan of a step that passed the block check (R114). -/
theorem lentLawfully_loan {st : Station} {s : State} {patron : Code} (named : (s.slot st).patron = some patron)
    (allowed : (s.slot st).overridden = true ∨ s.isBlocked patron = false) {r : Record} (borrower : r.borrower = some patron)
    {minute : Option Nat} (flags : r.flags.overridden = (loanFlags st patron minute s).overridden) : r.LentLawfully st s := by
  intro _
  refine ⟨patron, borrower, named, fun barred => ?_⟩
  have blocked := barred_iff.mpr barred
  have overridden : (s.slot st).overridden = true := allowed.resolve_right (by rw [blocked]; simp)
  exact ⟨overridden, by rw [flags, loanFlags, overridden, blocked]; rfl⟩

theorem lawful_checkoutStepOf {st : Station} {item patron : Code} {s : State} (named : (s.slot st).patron = some patron) :
    ∃ new, (checkoutStepOf st item patron s).rm.journal = s.rm.journal ++ new ∧ ∀ r ∈ new, r.LentLawfully st s := by
  unfold checkoutStepOf
  split
  · exact ⟨[], by rw [(undone_refuseStep ..).rm, List.append_nil], by simp⟩
  · exact ⟨[], by rw [(undone_blockedStep ..).rm, List.append_nil], by simp⟩
  · rename_i plan checks
    have passed := checkoutChecks_pass checks
    obtain ⟨clear, implicit, day, minute⟩ := plan
    obtain rfl := flagCheck_ok passed.flag
    obtain rfl := loanCheck_ok passed.loan
    have records := checkedOut_lent (s := s) (st := st) rfl item patron day minute (loanFlags st patron minute s)
    have rm : (checkoutSucceeds st item patron ⟨(s.flagOf item).map FlagEntry.flag, s.loanOf item, day, minute⟩ s).rm =
        (lent st item patron ⟨(s.flagOf item).map FlagEntry.flag, s.loanOf item, day, minute⟩ (loanFlags st patron minute s) s).rm := by
      unfold checkoutSucceeds
      dsimp only
      rw [highWater_rm]
      refine (postOwner_rm ..).trans ?_
      split
      · exact postOwner_rm ..
      · rfl
    rw [rm, records.journal, List.append_assoc, List.append_assoc]
    refine ⟨_, rfl, fun r mem => ?_⟩
    rcases List.mem_append.mp mem with mem | mem
    · intro kind
      split at mem
      · rw [List.mem_singleton.mp mem] at kind; simp at kind
      · cases mem
    rcases List.mem_append.mp mem with mem | mem
    · intro kind
      split at mem
      · rw [List.mem_singleton.mp mem] at kind; simp at kind
      · cases mem
    · rw [List.mem_singleton.mp mem]
      exact lentLawfully_loan named passed.allowed rfl (minute := minute) rfl

theorem lawful_renewStepOf {st : Station} {item patron : Code} {s : State} (named : (s.slot st).patron = some patron) :
    ∃ new, (renewStepOf st item patron s).rm.journal = s.rm.journal ++ new ∧ ∀ r ∈ new, r.LentLawfully st s := by
  unfold renewStepOf
  split
  · exact ⟨[], by rw [(undone_refuseStep ..).rm, List.append_nil], by simp⟩
  · exact ⟨[], by rw [(undone_blockedStep ..).rm, List.append_nil], by simp⟩
  · rename_i plan checks
    have passed := renewChecks_pass checks
    obtain ⟨seq, journal⟩ := renewed_journal st item patron plan (loanFlags st patron plan.dueMinute s) (s.fineOf plan.loan) s
    have rm : (renewSucceeds st item patron plan s).rm =
        (renewed st item patron plan (loanFlags st patron plan.dueMinute s) (s.fineOf plan.loan) s).rm := by
      rw [renewSucceeds_eq, highWater_rm]
      exact postOwner_rm ..
    rw [rm, journal, List.append_assoc]
    refine ⟨_, rfl, fun r mem => ?_⟩
    rcases List.mem_append.mp mem with mem | mem
    · intro kind
      obtain ⟨notCheckout, notRenewed⟩ := fineRecordsOf_kind mem
      exact absurd kind (not_or.mpr ⟨notCheckout, notRenewed⟩)
    · rw [List.mem_singleton.mp mem]
      exact lentLawfully_loan named passed.allowed rfl (minute := plan.dueMinute) rfl

theorem Record.LentLawfully.afterTaking {st : Station} {s : State} {r : Record} (h : r.LentLawfully st (takeCode st s)) :
    r.LentLawfully st s := by
  intro kind
  obtain ⟨b, borrower, patron, barred⟩ := h kind
  rw [taken_slot] at patron barred
  exact ⟨b, borrower, patron, barred⟩

theorem undone_or_done_of_taken {st : Station} {c : Code} {s t : State} (take : s.codeToTake st = some c)
    (h : Undone st (takeCode st s) t ∨ Done st c (takeCode st s) t) :
    (t.rm = s.rm ∧ (t.slot st).draft = (s.slot st).draft ∧ (t.slot st).overridden = (s.slot st).overridden ∧
        (t.slot st).patron = (s.slot st).patron) ∨
      (s.rm.journal.length < t.rm.journal.length ∧
        ∃ line, (t.slot st).draft = (s.slot st).draft ++ [line] ∧ (s.station st).scans.head? = some line.item) := by
  obtain ⟨_, _, _, head⟩ := codeToTake_some take
  have slot := taken_slot st s
  rcases h with ⟨rm, draft, overridden, patron⟩ | ⟨grows, line, draft, item⟩
  · rw [slot] at draft overridden patron
    exact .inl ⟨rm, draft, overridden, patron⟩
  · rw [slot] at draft
    exact .inr ⟨grows, line, draft, by rw [item]; exact head⟩

/-- Settles O33: the checkout and the renewal by their records, and every item step by what it leaves of the slot. -/
theorem itemStepsAreWholeAndHonourBlocks : Obligations.ItemStepsAreWholeAndHonourBlocks := by
  unfold Obligations.ItemStepsAreWholeAndHonourBlocks
  refine ⟨fun st s t c mem h => ?_, fun st s t c mem h => ?_⟩
  · have nothing : ∃ new, s.rm.journal = s.rm.journal ++ new ∧ ∀ r ∈ new, r.LentLawfully st s := ⟨[], by simp, by simp⟩
    simp only [List.mem_cons, List.not_mem_nil, or_false] at mem
    rcases mem with rfl | rfl
    · obtain rfl : onCheckoutStep st s = t := Host.Outcome.next.inj h
      rcases onCheckoutStep_acts st s with same | ⟨c, patron, _, named, acts⟩
      · rw [same]; exact nothing
      · obtain ⟨new, journal, lawful⟩ := lawful_checkoutStepOf (item := c) (s := takeCode st s) (by rw [taken_slot]; exact named)
        rw [acts]
        exact ⟨new, journal, fun r mem => (lawful r mem).afterTaking⟩
    · obtain rfl : onRenewStep st s = t := Host.Outcome.next.inj h
      rcases onRenewStep_acts st s with same | ⟨c, patron, _, named, acts⟩
      · rw [same]; exact nothing
      · obtain ⟨new, journal, lawful⟩ := lawful_renewStepOf (item := c) (s := takeCode st s) (by rw [taken_slot]; exact named)
        rw [acts]
        exact ⟨new, journal, fun r mem => (lawful r mem).afterTaking⟩
  · simp only [List.mem_cons, List.not_mem_nil, or_false] at mem
    rcases mem with rfl | rfl | rfl
    · obtain rfl : onCheckoutStep st s = t := Host.Outcome.next.inj h
      rcases onCheckoutStep_acts st s with same | ⟨c, patron, take, _, acts⟩
      · rw [same]; exact .inl ⟨rfl, rfl, rfl, rfl⟩
      · refine undone_or_done_of_taken take ?_
        rw [acts, checkoutStepOf]
        split
        · exact .inl (undone_refuseStep ..)
        · exact .inl (undone_blockedStep ..)
        · exact .inr (done_checkoutSucceeds _)
    · obtain rfl : onReturnStep st s = t := Host.Outcome.next.inj h
      rcases onReturnStep_acts st s with same | ⟨c, take, acts⟩
      · rw [same]; exact .inl ⟨rfl, rfl, rfl, rfl⟩
      · refine undone_or_done_of_taken take ?_
        rw [acts, returnStepOf]
        split
        · exact .inl (undone_refuseStep ..)
        · split
          · exact .inr (done_returnSucceeds ..)
          · exact .inl (undone_refuseStep ..)
    · obtain rfl : onRenewStep st s = t := Host.Outcome.next.inj h
      rcases onRenewStep_acts st s with same | ⟨c, patron, take, _, acts⟩
      · rw [same]; exact .inl ⟨rfl, rfl, rfl, rfl⟩
      · refine undone_or_done_of_taken take ?_
        rw [acts, renewStepOf]
        split
        · exact .inl (undone_refuseStep ..)
        · exact .inl (undone_blockedStep ..)
        · exact .inr (done_renewSucceeds ..)

end Sys2Proof.Machine
end

section
/-! PROOF. An ACK of the central office: the balances folded afresh, and the tests of the borrowers concerned (O52). -/

namespace Sys2Proof.Machine

/-! ### The borrowers tested (R93) -/

theorem dedup_concat (l : List Code) (b : Code) : (l ++ [b]).dedup = l.dedup.filter (fun x => x != b) ++ [b] := by
  induction l with
  | nil => rfl
  | cons x l ih =>
    by_cases later : x ∈ l
    · rw [List.cons_append, List.dedup_cons_of_mem (List.mem_append_left _ later), ih, List.dedup_cons_of_mem later]
    · by_cases same : x = b
      · rw [List.cons_append, List.dedup_cons_of_mem (by simp [same]), ih, List.dedup_cons_of_notMem later]
        simp [same]
      · rw [List.cons_append, List.dedup_cons_of_notMem (by simp [later, same]), ih, List.dedup_cons_of_notMem later]
        simp [same]

theorem eachOnce_eq (l : List Code) : eachOnce l = l.reverse.dedup.reverse := by
  induction l with
  | nil => rfl
  | cons b l ih =>
    rw [eachOnce, ih, List.reverse_cons, dedup_concat, List.reverse_append, List.filter_reverse]
    rfl

theorem moneyBorrowers_eq (l : List Record) : moneyBorrowers l =
    eachOnce (l.filterMap (fun r => if r.kind = .fine ∨ r.kind = .payment then r.borrower else none)) := by
  rw [eachOnce_eq]
  rfl

theorem moneyBorrowers_nodup (l : List Record) : (moneyBorrowers l).Nodup :=
  List.nodup_reverse.mpr (List.nodup_dedup _)

/-! ### One test, by what it calls for (R49, R52, R92) -/

section
variable (st : Option Station) (p : Port) {b : Code} {s : State}

theorem runTest_none (calls : s.testCallsFor b (s.balanceOf b) = none) : runTest st p b s = s := by
  rw [testCallsFor_eq] at calls
  unfold runTest
  cases act : s.thresholdTest b with
  | nothing => rfl
  | request => rw [act] at calls; cases calls
  | lift => rw [act] at calls; cases calls

theorem thresholdTest_request (calls : s.testCallsFor b (s.balanceOf b) = some .blockSet) : s.thresholdTest b = .request := by
  rw [testCallsFor_eq] at calls
  cases act : s.thresholdTest b with
  | nothing => rw [act] at calls; cases calls
  | request => rfl
  | lift => rw [act] at calls; cases calls

theorem thresholdTest_lift (calls : s.testCallsFor b (s.balanceOf b) = some .blockClear) : s.thresholdTest b = .lift := by
  rw [testCallsFor_eq] at calls
  cases act : s.thresholdTest b with
  | nothing => rw [act] at calls; cases calls
  | request => rw [act] at calls; cases calls
  | lift => rfl

theorem blockOf_of_request (act : s.thresholdTest b = .request) : s.blockOf b = none := by
  unfold State.thresholdTest at act
  split at act
  · assumption
  · split at act <;> cases act

theorem blockOf_of_lift (act : s.thresholdTest b = .lift) : ∃ x, s.blockOf b = some x := by
  unfold State.thresholdTest at act
  split at act
  · split at act <;> cases act
  · exact ⟨_, by assumption⟩

theorem runTest_sets (calls : s.testCallsFor b (s.balanceOf b) = some .blockSet) (room : s.rm.blocks.length < 1024) :
    runTest st p b s = { moveSearches .blocks (insertedAt (rank Block.key b.toNat s.rm.blocks)) s with rm := { s.rm with
      journal := s.rm.journal ++ [⟨s.rm.nextSeq, .blockSet, s.clock.day, s.clock.minute, st, p, { localLogic := true }, some b, none,
        none, none, some 5, false⟩],
      nextSeq := (s.rm.nextSeq + 1) % 65536,
      blocks := insertBy Block.key ⟨b, .localFines, .localLogic, s.clock.day⟩ s.rm.blocks } } := by
  have act := thresholdTest_request calls
  have new := putBlock_new (b := ⟨b, .localFines, .localLogic, s.clock.day⟩) (blockOf_of_request act)
  unfold runTest requestBlock
  rw [act]
  dsimp only
  rw [if_pos (show s.rm.blocks.length < Config.blocksMax from room), new]
  rfl

theorem runTest_full (calls : s.testCallsFor b (s.balanceOf b) = some .blockSet) (full : ¬ s.rm.blocks.length < 1024) :
    runTest st p b s = postStaff ⟨.blockListFull, none, some b, none, none⟩ s := by
  unfold runTest requestBlock
  rw [thresholdTest_request calls]
  exact if_neg full

theorem runTest_clears (calls : s.testCallsFor b (s.balanceOf b) = some .blockClear) :
    runTest st p b s = { moveSearches .blocks (removedAt (rank Block.key b.toNat s.rm.blocks)) s with rm := { s.rm with
      journal := s.rm.journal ++ [⟨s.rm.nextSeq, .blockClear, s.clock.day, s.clock.minute, st, p, { localLogic := true }, some b, none,
        none, none, none, false⟩],
      nextSeq := (s.rm.nextSeq + 1) % 65536,
      blocks := removeBy Block.key b.toNat s.rm.blocks } } := by
  have act := thresholdTest_lift calls
  obtain ⟨x, listed⟩ := blockOf_of_lift act
  unfold runTest liftBlock
  rw [act]
  dsimp only
  rw [removeBlockOf_listed listed]
  rfl

theorem testCallsFor_kinds (n : Nat) :
    s.testCallsFor b n = none ∨ s.testCallsFor b n = some .blockSet ∨
      (s.testCallsFor b n = some .blockClear ∧ (s.blockOf b).isSome = true) := by
  unfold State.testCallsFor
  cases s.blockOf b with
  | none => dsimp only; split <;> simp
  | some x => dsimp only; split <;> simp

end

/-! ### What the searches and the queues of events show of the acts (R41, R49) -/

theorem moveSearches_post (table : Table) (f : Nat → Nat) (p : Port) (e : Event) (s : State) :
    moveSearches table f (post p e s) = post p e (moveSearches table f s) := by
  have offer : ∀ q : PortState, (q.offer e).moveSearch table f = (q.moveSearch table f).offer e := fun q => by
    unfold PortState.offer
    by_cases room : q.events.length < Config.eventQueueMax
    · rw [if_pos room, if_pos (show (q.moveSearch table f).events.length < Config.eventQueueMax from room)]; rfl
    · rw [if_neg room, if_neg (show ¬ (q.moveSearch table f).events.length < Config.eventQueueMax from room)]; rfl
  cases p with
  | A => exact congrArg (fun q => { s with ports := ⟨q, s.ports.b.moveSearch table f⟩ }) (offer s.ports.a)
  | B => exact congrArg (fun q => { s with ports := ⟨s.ports.a.moveSearch table f, q⟩ }) (offer s.ports.b)

theorem moveSearches_role (table : Table) (f : Nat → Nat) (p : Port) (s : State) :
    ((moveSearches table f s).port p).role = (s.port p).role := by
  cases p <;> rfl

theorem moveSearches_postIfStaff (table : Table) (f : Nat → Nat) (p : Port) (e : Event) (s : State) :
    moveSearches table f (postIfStaff p e s) = postIfStaff p e (moveSearches table f s) := by
  unfold postIfStaff
  rw [moveSearches_role]
  split
  · exact moveSearches_post ..
  · rfl

theorem moveSearches_postStaff (table : Table) (f : Nat → Nat) (e : Event) (s : State) :
    moveSearches table f (postStaff e s) = postStaff e (moveSearches table f s) := by
  rw [postStaff, moveSearches_postIfStaff, moveSearches_postIfStaff]
  rfl

theorem actsMoveSearches_postStaff (e : Event) (acts : List (Code × RecordKind × Bool)) (keys : List Nat) (u : State) :
    State.actsMoveSearches keys acts (postStaff e u) = postStaff e (State.actsMoveSearches keys acts u) := by
  induction acts generalizing keys u with
  | nil => rfl
  | cons x acts ih =>
    obtain ⟨b, kind, written⟩ := x
    unfold State.actsMoveSearches
    dsimp only
    simp only [moveSearches_postStaff, ih]
    split
    · rfl
    · split <;> rfl

theorem actsMoveSearches_ports {u w : State} (ports : u.ports = w.ports) (acts : List (Code × RecordKind × Bool)) (keys : List Nat) :
    (State.actsMoveSearches keys acts u).ports = (State.actsMoveSearches keys acts w).ports := by
  induction acts generalizing keys u w with
  | nil => exact ports
  | cons x acts ih =>
    obtain ⟨b, kind, written⟩ := x
    have moved : ∀ f, (moveSearches .blocks f u).ports = (moveSearches .blocks f w).ports := fun f => by
      simp only [moveSearches, ports]
    unfold State.actsMoveSearches
    dsimp only
    split
    · exact ih ports keys
    · split
      · exact ih (moved _) _
      · exact ih (moved _) _

/-- BLOCK-LIST-FULL for each act that is not written (R49). -/
def tellActs (acts : List (Code × RecordKind × Bool)) (u : State) : State :=
  (acts.filter (fun x => !x.2.2)).foldl (fun u x => postStaff ⟨.blockListFull, none, some x.1, none, none⟩ u) u

theorem tellActs_ports {u w : State} (ports : u.ports = w.ports) (acts : List (Code × RecordKind × Bool)) :
    (tellActs acts u).ports = (tellActs acts w).ports := by
  unfold tellActs
  induction acts.filter (fun x => !x.2.2) generalizing u w with
  | nil => exact ports
  | cons x acts ih => exact ih (postStaff_ports_congr ports _)

theorem actsMoveSearches_armed (acts : List (Code × RecordKind × Bool)) (keys : List Nat) (u : State) :
    (State.actsMoveSearches keys acts u).armed = u.armed := by
  induction acts generalizing keys u with
  | nil => rfl
  | cons x acts ih =>
    unfold State.actsMoveSearches
    dsimp only
    split
    · exact ih ..
    · split
      · exact ih ..
      · exact ih ..

theorem tellActs_armed (acts : List (Code × RecordKind × Bool)) (u : State) : (tellActs acts u).armed = u.armed := by
  unfold tellActs
  induction acts.filter (fun x => !x.2.2) generalizing u with
  | nil => rfl
  | cons x acts ih =>
    rw [List.foldl_cons, ih, (postStaff_same _ u).eq]

/-! ### The tests one after another (R93) -/

/-- The record of an act (R49, R52). -/
def State.actRecord (s : State) (seq : Nat) (x : Code × RecordKind × Bool) : Record :=
  ⟨seq, x.2.1, s.clock.day, s.clock.minute, none, .A, { localLogic := true }, some x.1, none, none, none,
    if x.2.1 = .blockSet then some 5 else none, false⟩

/-- The acts that write a record. -/
def writtenActs (acts : List (Code × RecordKind × Bool)) : List (Code × RecordKind × Bool) := acts.filter (fun x => x.2.2)

/-- A borrower's entry after the acts, with the entry `before` them (R49, R52). -/
def State.blockAfter (s : State) (acts : List (Code × RecordKind × Bool)) (b : Code) (before : Option Block) : Option Block :=
  match (writtenActs acts).find? (fun x => x.1 == b) with
  | none => before
  | some x => if x.2.1 = .blockSet then some ⟨b, .localFines, .localLogic, s.clock.day⟩ else none

/-- What the tests of some borrowers leave of a state `v`, where they act as `acts` says. -/
structure TestsRun (s v t : State) (keys : List Nat) (acts : List (Code × RecordKind × Bool)) : Prop where
  journal : t.rm.journal = v.rm.journal ++ (writtenActs acts).mapIdx (fun i x => s.actRecord ((v.rm.nextSeq + i) % 65536) x)
  seq : t.rm.nextSeq = (v.rm.nextSeq + (writtenActs acts).length) % 65536
  blocks : ∀ b, t.blockOf b = s.blockAfter acts b (v.blockOf b)
  rm : t.rm = { v.rm with journal := t.rm.journal, nextSeq := t.rm.nextSeq, blocks := t.rm.blocks }
  rest : t = { v with rm := t.rm, ports := (tellActs acts (State.actsMoveSearches keys acts v)).ports }

theorem fst_mem_of_mem_testActs {s : State} {balance : Code → Nat} {bs : List Code} {n : Nat} {x : Code × RecordKind × Bool}
    (h : x ∈ s.testActs balance n bs) : x.1 ∈ bs := by
  induction bs generalizing n with
  | nil => cases h
  | cons b bs ih =>
    unfold State.testActs at h
    split at h
    · rcases List.mem_cons.mp h with rfl | h
      · exact List.mem_cons_self
      · exact List.mem_cons_of_mem _ (ih h)
    · rcases List.mem_cons.mp h with rfl | h
      · exact List.mem_cons_self
      · exact List.mem_cons_of_mem _ (ih h)
    · exact List.mem_cons_of_mem _ (ih h)

/-- Acts that do not name a borrower leave its entry. -/
theorem blockAfter_other {s : State} {balance : Code → Nat} {bs : List Code} {n : Nat} {b : Code} (new : b ∉ bs) (before : Option Block) :
    s.blockAfter (s.testActs balance n bs) b before = before := by
  have none : (writtenActs (s.testActs balance n bs)).find? (fun x => x.1 == b) = none :=
    List.find?_eq_none.mpr fun x mem same => new (beq_iff_eq.mp same ▸ fst_mem_of_mem_testActs (List.mem_of_mem_filter mem))
  rw [State.blockAfter, none]

/-- The acts of a test that writes, before those of the others. -/
theorem blockAfter_cons {s : State} {kind : RecordKind} {acts : List (Code × RecordKind × Bool)} {a b : Code} {before mid : Option Block}
    (own : b = a → s.blockAfter acts b mid = if kind = .blockSet then some ⟨b, .localFines, .localLogic, s.clock.day⟩ else none)
    (other : b ≠ a → mid = before) : s.blockAfter acts b mid = s.blockAfter ((a, kind, true) :: acts) b before := by
  have head : writtenActs ((a, kind, true) :: acts) = (a, kind, true) :: writtenActs acts := rfl
  by_cases same : b = a
  · have found : (writtenActs ((a, kind, true) :: acts)).find? (fun x => x.1 == b) = some (a, kind, true) := by
      rw [head, List.find?_cons_of_pos (by simp [same])]
    rw [own same]
    conv_rhs => rw [State.blockAfter, found]
  · have skip : (writtenActs ((a, kind, true) :: acts)).find? (fun x => x.1 == b) = (writtenActs acts).find? (fun x => x.1 == b) := by
      rw [head, List.find?_cons_of_neg (by simpa using Ne.symm same)]
    rw [other same]
    unfold State.blockAfter
    rw [skip]

/-- The numbers of the records of the acts, the first of them given. -/
theorem actRecords_cons (s : State) (seq : Nat) (x : Code × RecordKind × Bool) (acts : List (Code × RecordKind × Bool)) :
    (x :: acts).mapIdx (fun i y => s.actRecord ((seq + i) % 65536) y) =
      s.actRecord (seq % 65536) x :: acts.mapIdx (fun i y => s.actRecord (((seq + 1) % 65536 + i) % 65536) y) := by
  rw [List.mapIdx_cons]
  refine congrArg₂ List.cons rfl (congrArg (fun f => List.mapIdx f acts) (funext fun i => ?_))
  rw [show (seq + (i + 1)) % 65536 = ((seq + 1) % 65536 + i) % 65536 by omega]

/-- A test that writes a record leaves the tests after it a state like the one that it found. -/
theorem TestsRun.cons {s v v' t : State} {keys keys' : List Nat} {acts : List (Code × RecordKind × Bool)} {b : Code} {kind : RecordKind}
    {f : Nat → Nat} (run : TestsRun s v' t keys' acts) (bound : v.rm.nextSeq < 65536)
    (v_eq : v' = { moveSearches .blocks f v with rm := { v.rm with
      journal := v.rm.journal ++ [s.actRecord v.rm.nextSeq (b, kind, true)],
      nextSeq := (v.rm.nextSeq + 1) % 65536,
      blocks := v'.rm.blocks } })
    (own : s.blockAfter acts b (v'.blockOf b) = if kind = .blockSet then some ⟨b, .localFines, .localLogic, s.clock.day⟩ else none)
    (others : ∀ c, c ≠ b → v'.blockOf c = v.blockOf c)
    (moves : State.actsMoveSearches keys ((b, kind, true) :: acts) v = State.actsMoveSearches keys' acts (moveSearches .blocks f v)) :
    TestsRun s v t keys ((b, kind, true) :: acts) := by
  have journal' : v'.rm.journal = v.rm.journal ++ [s.actRecord v.rm.nextSeq (b, kind, true)] := by rw [v_eq]
  have seq' : v'.rm.nextSeq = (v.rm.nextSeq + 1) % 65536 := by rw [v_eq]
  have head : writtenActs ((b, kind, true) :: acts) = (b, kind, true) :: writtenActs acts := rfl
  have ports' : v'.ports = (moveSearches .blocks f v).ports := by rw [v_eq]
  obtain ⟨journal, seq, blocks, rm, rest⟩ := run
  refine ⟨?_, ?_, fun c => ?_, ?_, ?_⟩
  · rw [journal, journal', seq', head, actRecords_cons, Nat.mod_eq_of_lt bound, List.append_assoc]
    rfl
  · rw [seq, seq', head, List.length_cons]
    omega
  · rw [blocks]
    exact blockAfter_cons (fun same => by rw [same]; exact own) (others c)
  · exact rm.trans (by rw [v_eq])
  · have ports : (tellActs acts (State.actsMoveSearches keys' acts v')).ports =
        (tellActs ((b, kind, true) :: acts) (State.actsMoveSearches keys ((b, kind, true) :: acts) v)).ports := by
      rw [moves]
      exact tellActs_ports (actsMoveSearches_ports ports' ..) acts
    rw [ports] at rest
    exact rest.trans (by rw [v_eq]; rfl)

theorem length_removeBy_there {b : Code} {x : Block} {l : List Block} (rising : Rising Block.key l)
    (there : lookupBy Block.key b.toNat l = some x) : (removeBy Block.key b.toNat l).length = l.length - 1 := by
  obtain ⟨mem, key⟩ := lookupBy_some Block.key there
  have nodup : (l.map Block.key).Nodup := rising.imp (fun lt => Nat.ne_of_lt lt)
  have once : (l.map Block.key).count b.toNat = 1 :=
    List.count_eq_one_of_mem nodup (List.mem_map.mpr ⟨x, mem, key⟩)
  have split_ := List.length_eq_countP_add_countP (fun y => Block.key y == b.toNat) (l := l)
  have counted : l.countP (fun y => Block.key y == b.toNat) = 1 := by
    rw [← once, List.count, List.countP_map]
    rfl
  rw [removeBy, ← List.countP_eq_length_filter]
  rw [counted] at split_
  have same : l.countP (fun y => Block.key y != b.toNat) = l.countP (fun y => decide ¬(Block.key y == b.toNat) = true) :=
    List.countP_congr fun y _ => by simp
  omega

theorem insertBy_perm (x : Block) (l : List Block) : ((insertBy Block.key x l).map Block.key).Perm (x.key :: l.map Block.key) := by
  induction l with
  | nil => exact .refl _
  | cons y l ih =>
    unfold insertBy
    split
    · exact .refl _
    · rw [List.map_cons, List.map_cons]
      exact (ih.cons _).trans (.swap ..)

theorem map_removeBy (b : Code) (l : List Block) :
    (removeBy Block.key b.toNat l).map Block.key = (l.map Block.key).filter (fun k => k != b.toNat) := by
  unfold removeBy
  exact (List.filter_map (f := Block.key) (p := fun k => k != b.toNat)).symm

theorem rank_of_perm {keys : List Nat} {l : List Block} (perm : keys.Perm (l.map Block.key)) (k : Nat) :
    keys.countP (fun x => decide (x < k)) = rank Block.key k l := by
  rw [perm.countP_eq, List.countP_map]
  rfl

/-- The tests of some borrowers, each once, in a state whose entries of theirs are those of `s` (R92, R93). -/
theorem testsRun_foldl (s : State) (balance : Code → Nat) (bs : List Code) (once : bs.Nodup) (v : State) (keys : List Nat)
    (perm : keys.Perm (v.rm.blocks.map Block.key)) (rising : Rising Block.key v.rm.blocks) (bound : v.rm.nextSeq < 65536)
    (lookup : ∀ b ∈ bs, v.blockOf b = s.blockOf b) (config : v.config = s.config) (clock : v.clock = s.clock)
    (balances : ∀ b, v.balanceOf b = balance b) :
    TestsRun s v (bs.foldl (fun t b => runTest none .A b t) v) keys (s.testActs balance v.rm.blocks.length bs) := by
  induction bs generalizing v keys with
  | nil =>
    exact ⟨by simp [State.testActs, writtenActs], by simp [State.testActs, writtenActs, Nat.mod_eq_of_lt bound], fun _ => rfl, rfl, rfl⟩
  | cons b bs ih =>
    obtain ⟨new, onceRest⟩ := List.nodup_cons.mp once
    have calls : v.testCallsFor b (v.balanceOf b) = s.testCallsFor b (balance b) := by
      rw [State.testCallsFor, State.testCallsFor, lookup b List.mem_cons_self, config, balances]
    have later : ∀ c ∈ bs, c ≠ b := fun c mem same => new (same ▸ mem)
    rw [List.foldl_cons, State.testActs]
    rcases testCallsFor_kinds (s := s) (b := b) (balance b) with quiet | sets | ⟨clears, listed⟩
    · rw [quiet] at calls ⊢
      rw [runTest_none none .A calls]
      exact ih onceRest v keys perm rising bound (fun c mem => lookup c (List.mem_cons_of_mem _ mem)) config clock balances
    · rw [sets] at calls ⊢
      dsimp only
      by_cases room : v.rm.blocks.length < 1024
      · have absent : v.blockOf b = none := blockOf_of_request (thresholdTest_request calls)
        have v_eq := runTest_sets none .A calls room
        generalize runTest none .A b v = v' at v_eq
        have blocks : v'.rm.blocks = insertBy Block.key ⟨b, .localFines, .localLogic, s.clock.day⟩ v.rm.blocks := by rw [v_eq, clock]
        have length : v'.rm.blocks.length = v.rm.blocks.length + 1 := by rw [blocks, length_insertBy]
        have set_ : v'.blockOf b = some ⟨b, .localFines, .localLogic, s.clock.day⟩ := by
          rw [State.blockOf, blocks]
          exact lookupBy_insertBy_same Block.key ⟨b, .localFines, .localLogic, s.clock.day⟩ absent
        have others : ∀ c, c ≠ b → v'.blockOf c = v.blockOf c := fun c ne => by
          rw [State.blockOf, blocks]
          exact lookupBy_insertBy_other Block.key ⟨b, .localFines, .localLogic, s.clock.day⟩
            (fun same => ne (BitVec.eq_of_toNat_eq same)) _
        have run := ih onceRest v' (b.toNat :: keys)
          (by rw [blocks]; exact (perm.cons _).trans (insertBy_perm ⟨b, .localFines, .localLogic, s.clock.day⟩ _).symm)
          (by
            rw [blocks]
            exact insertBy_rising Block.key rising fun y mem same =>
              List.find?_eq_none.mp (show lookupBy Block.key b.toNat v.rm.blocks = none from absent) y mem (beq_iff_eq.mpr same))
          (by rw [v_eq]; exact Nat.mod_lt _ (by decide))
          (fun c mem => (others c (later c mem)).trans (lookup c (List.mem_cons_of_mem _ mem)))
          (by rw [v_eq]; exact config) (by rw [v_eq]; exact clock)
          (fun c => (balanceOf_congr (by rw [v_eq]) c).trans (balances c))
        rw [length] at run
        rw [decide_eq_true room, if_pos room]
        refine run.cons (f := insertedAt (rank Block.key b.toNat v.rm.blocks)) bound ?_ ?_ others ?_
        · rw [v_eq, State.actRecord, ← clock]; rfl
        · rw [blockAfter_other new]; exact set_
        · rw [State.actsMoveSearches, rank_of_perm perm]; rfl
      · have v_eq := (postStaff_same ⟨.blockListFull, none, some b, none, none⟩ v).eq
        have rm : (postStaff ⟨.blockListFull, none, some b, none, none⟩ v).rm = v.rm := by rw [v_eq]
        have blockOf : ∀ c, (postStaff ⟨.blockListFull, none, some b, none, none⟩ v).blockOf c = v.blockOf c := fun c => by
          rw [State.blockOf, rm]; rfl
        have run := ih onceRest (postStaff ⟨.blockListFull, none, some b, none, none⟩ v) keys (by rw [rm]; exact perm)
          (by rw [rm]; exact rising) (by rw [rm]; exact bound)
          (fun c mem => (blockOf c).trans (lookup c (List.mem_cons_of_mem _ mem)))
          (by rw [v_eq]; exact config) (by rw [v_eq]; exact clock) (fun c => (balanceOf_congr (by rw [rm]) c).trans (balances c))
        rw [rm] at run
        rw [decide_eq_false room, if_neg room, runTest_full none .A calls room]
        obtain ⟨journal, seq, after, frame, rest⟩ := run
        rw [rm] at journal seq frame
        refine ⟨journal, seq, fun c => (after c).trans (by rw [blockOf]; rfl), frame, ?_⟩
        rw [actsMoveSearches_postStaff] at rest
        exact rest.trans (by rw [v_eq]; rfl)
    · rw [clears] at calls ⊢
      dsimp only
      obtain ⟨x, here⟩ := blockOf_of_lift (thresholdTest_lift calls)
      have v_eq := runTest_clears none .A calls
      generalize runTest none .A b v = v' at v_eq
      have blocks : v'.rm.blocks = removeBy Block.key b.toNat v.rm.blocks := by rw [v_eq]
      have length : v'.rm.blocks.length = v.rm.blocks.length - 1 := by rw [blocks]; exact length_removeBy_there rising here
      have others : ∀ c, c ≠ b → v'.blockOf c = v.blockOf c := fun c ne => by
        rw [State.blockOf, blocks]
        exact lookupBy_removeBy_other Block.key (fun same => ne (BitVec.eq_of_toNat_eq same)) _
      have run := ih onceRest v' (keys.filter (fun k => k != b.toNat))
        (by rw [blocks, map_removeBy]; exact perm.filter _)
        (by rw [blocks]; exact removeBy_rising Block.key _ rising)
        (by rw [v_eq]; exact Nat.mod_lt _ (by decide))
        (fun c mem => (others c (later c mem)).trans (lookup c (List.mem_cons_of_mem _ mem)))
        (by rw [v_eq]; exact config) (by rw [v_eq]; exact clock)
        (fun c => (balanceOf_congr (by rw [v_eq]) c).trans (balances c))
      rw [length] at run
      refine run.cons (f := removedAt (rank Block.key b.toNat v.rm.blocks)) bound ?_ ?_ others ?_
      · rw [v_eq, State.actRecord, ← clock]; rfl
      · rw [blockAfter_other new, State.blockOf, blocks]
        exact lookupBy_removeBy_same Block.key _ _
      · rw [State.actsMoveSearches, rank_of_perm perm]; rfl

/-! ### The balances folded afresh (R91) -/

/-- What a confirmation makes of a balance: that of a borrower concerned is folded afresh from the records, or dropped. -/
def refoldEntry (concerned : Code → Prop) [DecidablePred concerned] (j : List Record) (x : Balance) : Option Balance :=
  if concerned x.borrower then (if j.any (Record.isTrackedOf x.borrower) then some ⟨x.borrower, foldBalance x.borrower j⟩ else none)
  else some x

theorem refoldBalances_eq (b : Code) (j : List Record) (l : List Balance) :
    refoldBalances b j l = l.filterMap (refoldEntry (· = b) j) := by
  unfold refoldBalances
  by_cases tracked : j.any (Record.isTrackedOf b) = true
  · rw [if_pos tracked, ← List.filterMap_eq_map]
    refine List.filterMap_congr fun x _ => ?_
    by_cases own : x.borrower = b
    · simp only [refoldEntry, Function.comp_apply, own, if_true, tracked]
    · simp only [refoldEntry, Function.comp_apply, own, if_false]
  · rw [if_neg tracked, ← List.filterMap_eq_filter]
    refine List.filterMap_congr fun x _ => ?_
    by_cases own : x.borrower = b
    · simp [refoldEntry, Option.guard, own, tracked]
    · simp [refoldEntry, Option.guard, own]

theorem refoldBalances_foldl (j : List Record) (bs : List Code) (l : List Balance) :
    bs.foldl (fun l b => refoldBalances b j l) l = l.filterMap (refoldEntry (· ∈ bs) j) := by
  induction bs generalizing l with
  | nil =>
    refine (List.filterMap_some.symm.trans (List.filterMap_congr fun x _ => ?_))
    simp [refoldEntry]
  | cons b bs ih =>
    rw [List.foldl_cons, ih, refoldBalances_eq, List.filterMap_filterMap]
    refine List.filterMap_congr fun x _ => ?_
    by_cases own : x.borrower = b
    · by_cases tracked : j.any (Record.isTrackedOf b) = true
      · simp [refoldEntry, own, tracked]
      · simp [refoldEntry, own, tracked]
    · simp [refoldEntry, own]

/-- A borrower's entry after the balances have been folded afresh. -/
theorem find_refoldEntry (concerned : Code → Prop) [DecidablePred concerned] (j : List Record) (l : List Balance) (b : Code) :
    (l.filterMap (refoldEntry concerned j)).find? (fun x => x.borrower == b) =
      if concerned b then
        (if j.any (Record.isTrackedOf b) then (l.find? (fun x => x.borrower == b)).map (fun _ => ⟨b, foldBalance b j⟩) else none)
      else l.find? (fun x => x.borrower == b) := by
  have keeps : ∀ x y, refoldEntry concerned j x = some y → y.borrower = x.borrower := fun x y h => by
    unfold refoldEntry at h
    split at h
    · split at h <;> cases h
      rfl
    · cases h; rfl
  induction l with
  | nil => simp
  | cons x l ih =>
    by_cases own : x.borrower = b
    · subst own
      by_cases here : concerned x.borrower
      · by_cases tracked : j.any (Record.isTrackedOf x.borrower) = true
        · simp [refoldEntry, here, tracked]
        · rw [List.filterMap_cons_none (by simp [refoldEntry, here, tracked]), ih]
          simp [here, tracked]
      · simp [refoldEntry, here]
    · have skip : (x :: l).find? (fun x => x.borrower == b) = l.find? (fun x => x.borrower == b) :=
        List.find?_cons_of_neg (by simpa using own)
      rw [skip, ← ih]
      cases made : refoldEntry concerned j x with
      | none => rw [List.filterMap_cons_none made]
      | some y =>
        rw [List.filterMap_cons_some made, List.find?_cons_of_neg]
        rw [keeps x y made]
        simpa using own

theorem any_tracked_content (b : Code) (l : List Record) : (l.map Record.content).any (Record.isTrackedOf b) = l.any (Record.isTrackedOf b) := by
  rw [List.any_map]
  rfl

theorem refoldEntry_content (concerned : Code → Prop) [DecidablePred concerned] (l : List Record) :
    refoldEntry concerned (l.map Record.content) = refoldEntry concerned l := by
  funext x
  unfold refoldEntry
  rw [any_tracked_content, foldBalance_content]

theorem mem_moneyBorrowers_iff {l : List Record} {b : Code} : b ∈ moneyBorrowers l ↔
    ∃ r ∈ l, (r.kind = .fine ∨ r.kind = .payment) ∧ r.borrower = some b := by
  rw [mem_moneyBorrowers]
  simp only [Record.isMoneyOf, Bool.and_eq_true, Bool.or_eq_true, beq_iff_eq]

/-! ### A confirmation (R34, R38, R91 to R93) -/

theorem rearm_eq (s : State) : rearm s = { s with armed := s.armed || decide (s.rm.journal.length < 3072) } := by
  unfold rearm
  by_cases few : s.rm.journal.length < 3072
  · rw [if_pos (show _ < Config.rearmMark from few), decide_eq_true few, Bool.or_true]
  · rw [if_neg (show ¬ _ < Config.rearmMark from few), decide_eq_false few, Bool.or_false]

/-- The state that a confirmation of `m` records leaves, by its tests; `u` is `s` but for its link. -/
theorem confirm_spec (m : Nat) {s u : State} (heard : u = { s with link := u.link }) (canonical : s.rm.Canonical)
    (bound : s.rm.nextSeq < 65536) :
    let t := confirm m u
    let kept := s.rm.journal.drop m
    let concerned := moneyBorrowers (s.rm.journal.take m)
    let acts := s.testActs t.balanceOf s.rm.blocks.length concerned
    let told := tellActs acts (State.actsMoveSearches (s.rm.blocks.map Block.key) acts (moveSearches .journal (fun pos => pos - m) s))
    let w := ({ told with rm := t.rm } : State).endOfStep
    t.rm.journal = kept.map Record.content ++
      (writtenActs acts).mapIdx (fun i x => s.actRecord ((s.rm.nextSeq + i) % 65536) x) ∧
    (∀ b, t.blockOf b = s.blockAfter acts b (s.blockOf b)) ∧
    t.rm = { s.rm with
      journal := t.rm.journal, blocks := t.rm.blocks, balances := t.rm.balances,
      nextSeq := (s.rm.nextSeq + (writtenActs acts).length) % 65536 } ∧
    t.ports = w.ports ∧ t.armed = (w.armed || decide (t.rm.journal.length < 3072)) ∧
    t.rm.balances = s.rm.balances.filterMap (refoldEntry (· ∈ concerned) kept) ∧
    t = { s with rm := t.rm, link := u.link, ports := t.ports, armed := t.armed } := by
  have sameRm : u.rm = s.rm := by rw [heard]
  have first := refolded_eq m u
  rw [refoldBalances_foldl, refoldEntry_content, sameRm] at first
  replace first := first.trans (congrArg (fun x : State => moveSearches .journal (fun pos => pos - m) { x with rm := { s.rm with
    journal := (s.rm.journal.drop m).map Record.content
    balances := s.rm.balances.filterMap (refoldEntry (· ∈ moneyBorrowers (s.rm.journal.take m)) (s.rm.journal.drop m)) } }) heard)
  obtain ⟨v, v_eq⟩ : ∃ v, refolded m u = v := ⟨_, rfl⟩
  rw [v_eq] at first
  have blocks : v.rm.blocks = s.rm.blocks := by rw [first]; rfl
  have lookup : ∀ b, v.blockOf b = s.blockOf b := fun b => by rw [State.blockOf, blocks]; rfl
  have run := testsRun_foldl s v.balanceOf (moneyBorrowers (s.rm.journal.take m)) (moneyBorrowers_nodup _) v (s.rm.blocks.map Block.key)
    (by rw [blocks]) (by rw [blocks]; exact canonical.blocks.1) (by rw [first]; exact bound) (fun b _ => lookup b)
    (by rw [first]; rfl) (by rw [first]; rfl) fun _ => rfl
  rw [blocks] at run
  have whole : confirm m u = rearm (highWater ((moneyBorrowers (s.rm.journal.take m)).foldl (fun t b => runTest none .A b t) v)) := by
    rw [confirm_eq, tested, v_eq, sameRm]
  generalize (moneyBorrowers (s.rm.journal.take m)).foldl (fun t b => runTest none .A b t) v = c at run whole
  obtain ⟨journal, seq, after, rm, rest⟩ := run
  rw [rearm_eq] at whole
  generalize confirm m u = t at whole ⊢
  have rmT : t.rm = c.rm := by rw [whole]; exact highWater_rm c
  have balances : t.rm.balances = v.rm.balances := by rw [rmT, rm]
  have balanceOf : t.balanceOf = v.balanceOf := funext fun b => balanceOf_congr balances b
  dsimp only
  rw [balanceOf]
  generalize s.testActs v.balanceOf s.rm.blocks.length (moneyBorrowers (s.rm.journal.take m)) = acts at journal seq after rest ⊢
  have start : v.ports = (moveSearches .journal (fun pos => pos - m) s).ports := by rw [first]; rfl
  have ports : (tellActs acts (State.actsMoveSearches (s.rm.blocks.map Block.key) acts v)).ports =
      (tellActs acts (State.actsMoveSearches (s.rm.blocks.map Block.key) acts (moveSearches .journal (fun pos => pos - m) s))).ports :=
    tellActs_ports (actsMoveSearches_ports start ..) acts
  rw [ports] at rest
  have armed : (tellActs acts (State.actsMoveSearches (s.rm.blocks.map Block.key) acts
      (moveSearches .journal (fun pos => pos - m) s))).armed = s.armed := by
    rw [tellActs_armed, actsMoveSearches_armed]; rfl
  generalize tellActs acts (State.actsMoveSearches (s.rm.blocks.map Block.key) acts (moveSearches .journal (fun pos => pos - m) s)) = told
    at rest armed ⊢
  obtain ⟨armedEnd, portsEnd⟩ := highWater_congr (x := c) (y := { told with rm := t.rm }) (by rw [rest])
    (by rw [rest, first]; exact armed.symm) (by rw [rmT])
  rw [endOfStep_eq, ← armedEnd, ← portsEnd]
  refine ⟨?_, fun b => ?_, ?_, ?_, ?_, ?_, ?_⟩
  · rw [rmT, journal, first]; rfl
  · rw [State.blockOf, rmT, ← lookup]; exact after b
  · have number : c.rm.nextSeq = (s.rm.nextSeq + (writtenActs acts).length) % 65536 := by rw [seq, first]; rfl
    rw [rmT, ← number]
    have same : c.rm.balances = v.rm.balances := by rw [rm]
    exact rm.trans (by rw [same, first]; rfl)
  · rw [whole]
  · rw [whole, highWater_rm]
  · rw [balances, first]; rfl
  · have frame := highWater_frame c
    rw [whole, frame, rest, first]
    rfl

/-! ### The ACK (R155) -/

/-- A frame heard changes the seeking of the link alone. -/
theorem heardActivity_link (f : List Byte) (s : State) :
    (heardActivity f s).link = { s.link with seek := (heardActivity f s).link.seek } := by
  unfold heardActivity
  split
  · unfold onLink Link.activity
    dsimp only
    split
    · split <;> rfl
    · rfl
  · rfl

/-- Settles O52: the ACK accepted, and the confirmation that it makes. -/
theorem ackConfirmsTheOldestRecords : Obligations.AckConfirmsTheOldestRecords := by
  unfold Obligations.AckConfirmsTheOldestRecords
  intro seq n k s run awaits jam data hseq few address f confirmed kept
  have accepted : s.acceptedAck f = some k := by
    have count : (byteAt [BitVec.ofNat 8 k] 0).toNat = k := by simp [byteAt]; omega
    rw [State.acceptedAck, goodFrame_frameBytes _ _ _ hseq (by simp), data]
    dsimp only
    rw [count]
    exact if_pos ⟨hears_awaiting run jam (.inl awaits), awaits, fromCentral_own .., rfl, rfl, rfl, few⟩
  have exec_ : exec (.ackFrame f) s = .next (onAckFrame f s) := rfl
  rw [exec_, onAckFrame, accepted, data]
  dsimp only
  refine ⟨fun noGap high => ?_, fun low canonical numbered => ?_⟩
  · rw [if_pos (show s.pfail = true from high), heardActivity_noGap noGap]
  rw [if_neg (by simp [low])]
  have heard := heardActivity_eq f s
  have heardLink := heardActivity_link f s
  generalize heardActivity f s = v at heard heardLink ⊢
  have spec := confirm_spec (min k n) heard canonical.1 numbered.1.1
  have unsent := unsent_confirm (min k n) v
  have link := confirm_link (min k n) v
  dsimp only at spec
  generalize confirm (min k n) v = c at spec unsent link
  obtain ⟨journal, blocks, rm, ports, armed, balances, frame⟩ := spec
  rw [moneyBorrowers_eq] at journal blocks rm ports armed
  have frames : c.frameWanted = if c.rm.journal = [] then .poll else .data none := by
    rw [frameWanted_eq]
    by_cases empty : c.rm.journal = []
    · rw [if_pos empty, if_neg (by simp [empty])]
    · obtain ⟨r, mem⟩ := List.exists_mem_of_ne_nil _ empty
      rw [if_neg empty, if_pos ⟨r, mem, unsent r mem⟩]
  refine ⟨_, rfl, ⟨journal, blocks, rm, ports, armed⟩, ?_, fun b => ?_, ?_, ?_⟩
  · refine balances.trans (List.filterMap_congr fun x _ => ?_)
    exact if_congr mem_moneyBorrowers_iff rfl rfl
  · have entry := (congrArg (List.find? (fun x => x.borrower == b)) balances).trans (find_refoldEntry _ _ _ b)
    exact entry.trans (if_congr mem_moneyBorrowers_iff rfl rfl)
  · exact congrArg (fun x => onLink (fun _ => _) x) frame
  · rw [onLink, link, frames, heardLink]

end Sys2Proof.Machine
end

section
/-! PROOF. The fines of Section 5 by open days and open minutes (O41). -/

namespace Sys2Proof.Machine

/-! ### The open days of a day fine (R86) -/

theorem openDaysLate_eq (isOpen : Nat → Bool) {u e : Nat} (late : u < e) :
    openDaysLate isOpen u e = ((List.range (e + 1)).filter (fun d => decide (u < d) && isOpen d)).length := by
  have parts : List.range (e + 1) = List.range' 0 (u + 1) ++ List.range' (u + 1) (e - u) := by
    have whole := List.range'_append_1 (s := 0) (m := u + 1) (n := e - u)
    rw [Nat.zero_add, show u + 1 + (e - u) = e + 1 by omega] at whole
    rw [List.range_eq_range', whole]
  have before : (List.range' 0 (u + 1)).countP (fun d => decide (u < d) && isOpen d) = 0 :=
    List.countP_eq_zero.mpr fun d mem => by
      have := List.mem_range'_1.mp mem
      simp only [Bool.and_eq_true, decide_eq_true_eq, not_and]
      omega
  have after : (List.range' (u + 1) (e - u)).countP (fun d => decide (u < d) && isOpen d) = (List.range' (u + 1) (e - u)).countP isOpen :=
    List.countP_congr fun d mem => by
      have : u < d := (List.mem_range'_1.mp mem).1
      simp [this]
  rw [← List.countP_eq_length_filter, parts, List.countP_append, before, after, Nat.zero_add]
  rfl

/-! ### The open minutes of an hour fine (R87) -/

section
variable (cfg : Configuration) (closures : List Nat)

theorem openMinutes_split {a b c : Nat} (ab : a ≤ b) (bc : b ≤ c) :
    openMinutes cfg closures a c = openMinutes cfg closures a b + openMinutes cfg closures b c := by
  have whole := List.range'_append_1 (s := a) (m := b - a) (n := c - b)
  rw [show a + (b - a) = b by omega, show b - a + (c - b) = c - a by omega] at whole
  unfold openMinutes
  rw [← whole, List.countP_append]

theorem openMinutes_succ {a b : Nat} (ab : a ≤ b) :
    openMinutes cfg closures a (b + 1) = openMinutes cfg closures a b + if openMinute cfg closures b then 1 else 0 := by
  rw [openMinutes_split cfg closures ab (Nat.le_succ b)]
  congr 1
  unfold openMinutes
  rw [show b + 1 - b = 1 by omega]
  simp [List.countP_cons]

theorem openMinute_within {day k : Nat} (h : k < 1440) : openMinute cfg closures (day * 1440 + k) = true ↔
    isOpenDay cfg closures day = true ∧ (hoursOf cfg day).openAt ≤ k ∧ k < (hoursOf cfg day).closeAt := by
  have quotient : (day * 1440 + k) / 1440 = day := by omega
  have remainder : (day * 1440 + k) % 1440 = k := by omega
  unfold openMinute
  rw [quotient, remainder]
  simp [and_assoc]

/-- The opening minutes within one day (R68, R87). -/
theorem openMinutes_within (day : Nat) {lo hi : Nat} (le : lo ≤ hi) (bound : hi ≤ 1440) :
    openMinutes cfg closures (day * 1440 + lo) (day * 1440 + hi) = openMinutesIn cfg closures day lo hi := by
  induction hi, le using Nat.le_induction with
  | base =>
    have none : openMinutes cfg closures (day * 1440 + lo) (day * 1440 + lo) = 0 := by simp [openMinutes]
    rw [none, openMinutesIn]
    split <;> omega
  | succ k le ih =>
    have minute := openMinute_within cfg closures (day := day) (k := k) (by omega)
    rw [← Nat.add_assoc, openMinutes_succ cfg closures (by omega), ih (by omega)]
    unfold openMinutesIn
    by_cases isOpen : isOpenDay cfg closures day = true
    · rw [if_pos isOpen, if_pos isOpen]
      by_cases within : openMinute cfg closures (day * 1440 + k) = true
      · obtain ⟨_, _, _⟩ := minute.mp within
        rw [if_pos within]
        omega
      · rw [if_neg within]
        have outside : ¬ ((hoursOf cfg day).openAt ≤ k ∧ k < (hoursOf cfg day).closeAt) := fun h => within (minute.mpr ⟨isOpen, h⟩)
        omega
    · rw [if_neg isOpen, if_neg isOpen, if_neg fun h => isOpen (minute.mp h).1]

/-- The opening minutes of the days from `u` on, `n` of them before the day `e`, from minute `um` of the first to minute `em` of the
last. -/
theorem sum_openMinutesIn (n : Nat) : ∀ {u um e em : Nat}, u + n = e → um ≤ 1440 → em ≤ 1440 → (n = 0 → um ≤ em) →
    ((List.range' u (n + 1)).map (fun day =>
      openMinutesIn cfg closures day (if day = u then um else 0) (if day = e then em else 1440))).sum =
    openMinutes cfg closures (u * 1440 + um) (e * 1440 + em) := by
  induction n with
  | zero =>
    intro u um e em last _ bound ordered
    obtain rfl : u = e := last
    rw [openMinutes_within cfg closures u (ordered rfl) bound]
    simp
  | succ n ih =>
    intro u um e em last start bound _
    have tail := ih (u := u + 1) (um := 0) (e := e) (em := em) (by omega) (by omega) bound (fun _ => by omega)
    have firsts : ∀ day ∈ List.range' (u + 1) (n + 1),
        openMinutesIn cfg closures day (if day = u then um else 0) (if day = e then em else 1440) =
        openMinutesIn cfg closures day (if day = u + 1 then 0 else 0) (if day = e then em else 1440) := fun day mem => by
      have : u + 1 ≤ day := (List.mem_range'_1.mp mem).1
      rw [if_neg (show ¬ day = u by omega), ite_self]
    rw [List.range'_succ, List.map_cons, List.sum_cons, List.map_congr_left firsts, tail, if_pos rfl,
      if_neg (show ¬ u = e by omega), ← openMinutes_within cfg closures u start (Nat.le_refl _)]
    have join := openMinutes_split cfg closures (a := u * 1440 + um) (b := u * 1440 + 1440) (c := e * 1440 + em) (by omega) (by omega)
    rw [join, show (u + 1) * 1440 + 0 = u * 1440 + 1440 by omega]

/-- The late minutes are the minutes of opening hours from the due instant to the fine's (R87). -/
theorem lateMinutes_eq {u um e em : Nat} (start : um ≤ 1440) (bound : em ≤ 1440) :
    lateMinutes cfg closures u um e em = openMinutes cfg closures (u * 1440 + um) (e * 1440 + em) := by
  unfold lateMinutes
  split
  · rename_i early
    rw [openMinutes, Nat.sub_eq_zero_of_le early]
    rfl
  · rename_i late
    have days : e + 1 - u = (e - u) + 1 := by omega
    rw [days]
    exact sum_openMinutesIn cfg closures (e - u) (by omega) start bound (fun same => by omega)

end

theorem chargeFor_le (row : ItemClass) (n : Nat) : chargeFor row n ≤ row.cap := Nat.min_le_right ..

/-- Settles O41: the day fine by its open days, the hour fine by its open minutes. -/
theorem finesFollowTheirRules : Obligations.FinesFollowTheirRules := by
  unfold Obligations.FinesFollowTheirRules
  intro s l row now
  refine ⟨?cap, fun day => ?day, fun um hour => ?hour⟩
  case cap =>
    unfold State.fineOf dayFine
    split
    · split
      · exact Nat.zero_le _
      · exact chargeFor_le ..
    · exact chargeFor_le ..
  case day =>
    have fine : s.fineOf l = dayFine s.config s.rm.closures row l.dueDay s.clock.day := by rw [State.fineOf, day]
    rw [fine]
    refine ⟨fun early => if_pos early, fun late => ?_⟩
    rw [dayFine, if_neg (Nat.not_le.mpr late), openDaysLate_eq _ late]
    rfl
  case hour =>
    have fine : s.fineOf l = chargeFor row ((lateMinutes s.config s.rm.closures l.dueDay um s.clock.day s.clock.minute + 59) / 60) := by
      rw [State.fineOf, hour]
      rfl
    rw [fine]
    refine ⟨fun early => ?_, fun bound legal _ => ?_⟩
    · rw [lateMinutes, if_pos early]
      simp [chargeFor]
    · obtain ⟨_, minute, _⟩ := legal
      rw [lateMinutes_eq _ _ bound (by omega)]
      rfl

end Sys2Proof.Machine
end

section
/-! PROOF. The due computation (4.5): the two searches for a day, the count of opening hours, and COMPUTE DUE (O40). -/

namespace Sys2Proof.Machine

/-! ### The searches for a due day (R79) -/

theorem searchForward_spec (isOpen : Nat → Bool) (n : Nat) {raw : Nat} (bound : raw ≤ 65535) :
    let day := searchForward isOpen n raw
    raw ≤ day ∧ day ≤ min (raw + n) 65535 ∧ (∀ x, raw ≤ x → x < day → isOpen x = false) ∧
      (isOpen day = true ∨ day = min (raw + n) 65535) := by
  induction n generalizing raw with
  | zero => exact ⟨le_rfl, by simpa [searchForward] using bound, fun x _ _ => by simp only [searchForward] at *; omega,
      .inr (by simp [searchForward, bound])⟩
  | succ n ih =>
    unfold searchForward
    by_cases stops : (isOpen raw || decide (Config.lastDay ≤ raw)) = true
    · rw [if_pos stops]
      refine ⟨le_rfl, by omega, fun x _ _ => by omega, ?_⟩
      rcases Bool.or_eq_true_iff.mp stops with here | last
      · exact .inl here
      · have : 65535 ≤ raw := of_decide_eq_true last
        exact .inr (by omega)
    · rw [if_neg stops]
      simp only [Bool.or_eq_true, decide_eq_true_eq, not_or, Bool.not_eq_true] at stops
      obtain ⟨closed, before⟩ := stops
      have before : ¬ 65535 ≤ raw := before
      obtain ⟨le, most, closeds, found⟩ := ih (raw := raw + 1) (by omega)
      refine ⟨by omega, by omega, fun x from_ upTo => ?_, found.imp id (by omega)⟩
      by_cases first : x = raw
      · rw [first]; exact closed
      · exact closeds x (by omega) upTo

theorem searchBack_spec (isOpen : Nat → Bool) (low n : Nat) {raw : Nat} (bound : low ≤ raw) :
    let day := searchBack isOpen low n raw
    max (raw - n) low ≤ day ∧ day ≤ raw ∧ (∀ x, day < x → x ≤ raw → isOpen x = false) ∧
      (isOpen day = true ∨ day = max (raw - n) low) := by
  induction n generalizing raw with
  | zero => exact ⟨by simpa [searchBack] using bound, le_rfl, fun x _ _ => by simp only [searchBack] at *; omega,
      .inr (by simp [searchBack, bound])⟩
  | succ n ih =>
    unfold searchBack
    by_cases stops : (isOpen raw || decide (raw ≤ low)) = true
    · rw [if_pos stops]
      refine ⟨by omega, le_rfl, fun x _ _ => by omega, ?_⟩
      rcases Bool.or_eq_true_iff.mp stops with here | last
      · exact .inl here
      · have : raw ≤ low := of_decide_eq_true last
        exact .inr (by omega)
    · rw [if_neg stops]
      simp only [Bool.or_eq_true, decide_eq_true_eq, not_or, Bool.not_eq_true] at stops
      obtain ⟨closed, above⟩ := stops
      obtain ⟨least, le, closeds, found⟩ := ih (raw := raw - 1) (by omega)
      refine ⟨by omega, by omega, fun x from_ upTo => ?_, found.imp id (by omega)⟩
      by_cases first : x = raw
      · rw [first]; exact closed
      · exact closeds x from_ (by omega)

/-! ### The next open day (R80, R81) -/

theorem nextOpenDay_some {isOpen : Nat → Bool} {last n day y : Nat} (h : nextOpenDay isOpen last n day = some y) :
    day < y ∧ y ≤ last ∧ y ≤ 65535 ∧ isOpen y = true ∧ ∀ x, day < x → x < y → isOpen x = false := by
  induction n generalizing day with
  | zero => cases h
  | succ n ih =>
    unfold nextOpenDay at h
    split at h
    · cases h
    · rename_i within
      have within : ¬ (last < day + 1 ∨ 65535 < day + 1) := within
      split at h
      · rename_i here
        cases h
        exact ⟨by omega, by omega, by omega, here, fun x _ _ => by omega⟩
      · rename_i closed
        obtain ⟨lt, upTo, most, open_, closeds⟩ := ih h
        refine ⟨by omega, upTo, most, open_, fun x from_ before => ?_⟩
        by_cases first : x = day + 1
        · rw [first]; exact Bool.eq_false_iff.mpr closed
        · exact closeds x (by omega) before

theorem nextOpenDay_none {isOpen : Nat → Bool} {last n day : Nat} (fuel : last ≤ day + n) (h : nextOpenDay isOpen last n day = none) :
    ∀ x, day < x → x ≤ last → x ≤ 65535 → isOpen x = false := by
  induction n generalizing day with
  | zero => exact fun x _ _ => by omega
  | succ n ih =>
    unfold nextOpenDay at h
    split at h
    · rename_i past
      have past : last < day + 1 ∨ 65535 < day + 1 := past
      exact fun x _ _ _ => by omega
    · split at h
      · cases h
      · rename_i closed
        intro x from_ upTo most
        by_cases first : x = day + 1
        · rw [first]; exact Bool.eq_false_iff.mpr closed
        · exact ih (by omega) h x (by omega) upTo most

/-! ### The count of opening hours (R80, R81) -/

section
variable {cfg : Configuration} {closures : List Nat}

theorem openMinutes_closed {a b : Nat} (h : ∀ k, a ≤ k → k < b → openMinute cfg closures k = false) :
    openMinutes cfg closures a b = 0 :=
  List.countP_eq_zero.mpr fun k mem => by
    obtain ⟨from_, before⟩ := List.mem_range'_1.mp mem
    rw [h k from_ (by omega)]
    simp

theorem openMinutes_empty {a b : Nat} (h : b ≤ a) : openMinutes cfg closures a b = 0 :=
  openMinutes_closed fun k from_ before => by omega

theorem openMinute_closedDay {k : Nat} (h : isOpenDay cfg closures (k / 1440) = false) : openMinute cfg closures k = false := by
  simp [openMinute, h]

theorem openMinute_early {k : Nat} (h : k % 1440 < (hoursOf cfg (k / 1440)).openAt) : openMinute cfg closures k = false := by
  simp [openMinute, h]

theorem openMinute_late {k : Nat} (h : (hoursOf cfg (k / 1440)).closeAt ≤ k % 1440) : openMinute cfg closures k = false := by
  simp [openMinute, h]

/-- The hours of every weekday stand in order, within the day (R69). -/
def HoursInOrder (cfg : Configuration) : Prop := ∀ day, (hoursOf cfg day).openAt ≤ (hoursOf cfg day).closeAt ∧ (hoursOf cfg day).closeAt ≤ 1440

variable (hours : HoursInOrder cfg)
include hours

/-- From the end of a day to the opening of the next open day no minute is open. -/
theorem openMinutes_toNext {last n day y : Nat} (next : nextOpenDay (isOpenDay cfg closures) last n day = some y) :
    openMinutes cfg closures (day * 1440 + 1440) (y * 1440 + (hoursOf cfg y).openAt) = 0 := by
  obtain ⟨_, _, _, _, closeds⟩ := nextOpenDay_some next
  have := hours y
  refine openMinutes_closed fun k from_ before => ?_
  by_cases there : k / 1440 < y
  · exact openMinute_closedDay (closeds _ (by omega) there)
  · have same : k / 1440 = y := by omega
    exact openMinute_early (by rw [same]; omega)

omit hours in
/-- Where no open day follows, no minute to the end of the last day is open. -/
theorem openMinutes_noNext {last n day : Nat} (fuel : last ≤ day + n)
    (none : nextOpenDay (isOpenDay cfg closures) last n day = none) :
    openMinutes cfg closures (day * 1440 + 1440) ((min last 65535 + 1) * 1440) = 0 :=
  openMinutes_closed fun k from_ before =>
    openMinute_closedDay (nextOpenDay_none fuel none _ (by omega) (by omega) (by omega))

/-- The rest of an open day's opening hours, from a minute not before their start. -/
theorem openMinutes_restOfDay {day c : Nat} (isOpen : isOpenDay cfg closures day = true) (from_ : (hoursOf cfg day).openAt ≤ c)
    (upTo : c ≤ (hoursOf cfg day).closeAt) :
    openMinutes cfg closures (day * 1440 + c) (day * 1440 + 1440) = (hoursOf cfg day).closeAt - c := by
  have := hours day
  rw [openMinutes_within cfg closures day (by omega) le_rfl, openMinutesIn, if_pos isOpen]
  omega

omit hours in
theorem minute_le_of_day_lt {d y m o : Nat} (lt : d < y) (le : m ≤ 1440) : d * 1440 + m ≤ y * 1440 + o := by omega

omit hours in
theorem minute_le_end {y limit o : Nat} (day : y ≤ limit) (minute : o ≤ 1440) : y * 1440 + o ≤ (limit + 1) * 1440 := by omega

/-- The count of `left` opening minutes ends on the minute that completes them, and finds none where the days up to the last hold too
few (R81). -/
theorem countHours_spec {last : Nat} (n : Nat) : ∀ {day c left : Nat}, min last 65535 < day + n → day ≤ min last 65535 → last ≤ day + 14 →
    isOpenDay cfg closures day = true → (hoursOf cfg day).openAt ≤ c → c ≤ (hoursOf cfg day).closeAt → 1 ≤ left →
    (left ≤ openMinutes cfg closures (day * 1440 + c) ((min last 65535 + 1) * 1440) →
      ∃ y mm, countHours cfg (isOpenDay cfg closures) last n day c left = some (y, mm) ∧ 1 ≤ mm ∧ mm ≤ 1440 ∧ day ≤ y ∧
        y ≤ min last 65535 ∧ openMinutes cfg closures (day * 1440 + c) (y * 1440 + mm) = left ∧
        openMinute cfg closures (y * 1440 + mm - 1) = true) ∧
    (openMinutes cfg closures (day * 1440 + c) ((min last 65535 + 1) * 1440) < left →
      countHours cfg (isOpenDay cfg closures) last n day c left = none) := by
  have split_ := @openMinutes_split cfg closures
  have empty := @openMinutes_empty cfg closures
  have inOneDay := @openMinutes_within cfg closures
  have rest := @openMinutes_restOfDay cfg closures hours
  have toNext := @openMinutes_toNext cfg closures hours
  have noNext := @openMinutes_noNext cfg closures last
  have limit_le : min last 65535 ≤ last ∧ ∀ y, y ≤ last → y ≤ 65535 → y ≤ min last 65535 :=
    ⟨Nat.min_le_left .., fun _ h k => Nat.le_min.mpr ⟨h, k⟩⟩
  generalize openMinutes cfg closures = count at *
  generalize min last 65535 = limit at *
  obtain ⟨limitLe, leLimit⟩ := limit_le
  induction n with
  | zero => intro day c left fuel within; omega
  | succ n ih =>
    intro day c left fuel within near isOpen from_ upTo pos
    have inDay := hours day
    have toEnd : day * 1440 + c ≤ day * 1440 + 1440 := by omega
    have toLast : day * 1440 + 1440 ≤ (limit + 1) * 1440 := by omega
    unfold countHours
    dsimp only
    by_cases here : left ≤ (hoursOf cfg day).closeAt - c
    · rw [if_pos here]
      refine ⟨fun _ => ⟨day, c + left, rfl, by omega, by omega, le_rfl, within, ?_, ?_⟩, fun few => absurd few (Nat.not_lt.mpr ?_)⟩
      · rw [inOneDay day (by omega) (by omega), openMinutesIn, if_pos isOpen]
        omega
      · rw [show day * 1440 + (c + left) - 1 = day * 1440 + (c + left - 1) by omega,
          openMinute_within cfg closures (day := day) (k := c + left - 1) (by omega)]
        exact ⟨isOpen, by omega, by omega⟩
      · rw [split_ toEnd toLast, rest isOpen from_ upTo]
        exact Nat.le_add_right_of_le here
    · rw [if_neg here]
      cases next : nextOpenDay (isOpenDay cfg closures) last 14 day with
      | none =>
        refine ⟨fun enough => absurd ?_ here, fun _ => rfl⟩
        rwa [split_ toEnd toLast, rest isOpen from_ upTo, noNext near next] at enough
      | some y =>
        obtain ⟨lt, yLast, yMost, yOpen, _⟩ := nextOpenDay_some next
        have inY := hours y
        have within' : y ≤ limit := leLimit y yLast yMost
        have toY : day * 1440 + 1440 ≤ y * 1440 + (hoursOf cfg y).openAt := minute_le_of_day_lt lt le_rfl
        have yToLast : y * 1440 + (hoursOf cfg y).openAt ≤ (limit + 1) * 1440 := minute_le_end within' (inY.1.trans inY.2)
        obtain ⟨some_, none_⟩ := ih (day := y) (c := (hoursOf cfg y).openAt) (left := left - ((hoursOf cfg day).closeAt - c))
          (fuel.trans_le (by omega)) within' (near.trans (by omega)) yOpen le_rfl inY.1 (Nat.sub_pos_of_lt (Nat.lt_of_not_le here))
        have onward : ∀ e, y * 1440 + (hoursOf cfg y).openAt ≤ e → count (day * 1440 + c) e =
            (hoursOf cfg day).closeAt - c + count (y * 1440 + (hoursOf cfg y).openAt) e := fun e reaches => by
          rw [split_ toEnd (toY.trans reaches), rest isOpen from_ upTo, split_ toY reaches, toNext next, Nat.zero_add]
        rw [onward _ yToLast]
        dsimp only
        refine ⟨fun enough => ?_, fun few => none_ (Nat.lt_sub_of_add_lt (by rwa [Nat.add_comm]))⟩
        obtain ⟨z, mm, found, one, most, le, upToLast, counted, open_⟩ := some_ (Nat.sub_le_iff_le_add'.mpr enough)
        refine ⟨z, mm, found, one, most, lt.le.trans le, upToLast, ?_, open_⟩
        clear enough
        have reaches : y * 1440 + (hoursOf cfg y).openAt ≤ z * 1440 + mm := by
          by_contra before
          rw [empty (Nat.le_of_not_le before)] at counted
          omega
        rw [onward _ reaches, counted]
        clear counted
        omega

/-- The start point of the count: no minute between the instant and it is open, and where there is none no minute is open (R80). -/
theorem hourStart_spec {d m : Nat} (day : d ≤ 65535) (minute : m ≤ 1439) :
    (∀ y c, hourStart cfg (isOpenDay cfg closures) d m = some (y, c) →
      d ≤ y ∧ y ≤ min (d + 14) 65535 ∧ isOpenDay cfg closures y = true ∧ (hoursOf cfg y).openAt ≤ c ∧ c ≤ (hoursOf cfg y).closeAt ∧
        d * 1440 + m ≤ y * 1440 + c ∧ openMinutes cfg closures (d * 1440 + m) (y * 1440 + c) = 0) ∧
    (hourStart cfg (isOpenDay cfg closures) d m = none →
      openMinutes cfg closures (d * 1440 + m) ((min (d + 14) 65535 + 1) * 1440) = 0) := by
  have inDay := hours d
  unfold hourStart
  by_cases today : (isOpenDay cfg closures d && decide (m < (hoursOf cfg d).closeAt)) = true
  · rw [if_pos today]
    obtain ⟨isOpen, before⟩ := Bool.and_eq_true_iff.mp today
    have before := of_decide_eq_true before
    refine ⟨fun y c start => ?_, fun none => (by cases none)⟩
    cases start
    refine ⟨le_rfl, by omega, isOpen, Nat.le_max_right .., by omega, by omega, openMinutes_closed fun k from_ upTo => ?_⟩
    have same : k / 1440 = d := by omega
    exact openMinute_early (by rw [same]; omega)
  · have toEnd : d * 1440 + m ≤ d * 1440 + 1440 := by omega
    rw [if_neg today]
    have closedToday : openMinutes cfg closures (d * 1440 + m) (d * 1440 + 1440) = 0 := openMinutes_closed fun k from_ upTo => by
      have same : k / 1440 = d := by omega
      by_cases isOpen : isOpenDay cfg closures d = true
      · have after : ¬ m < (hoursOf cfg d).closeAt := fun before => today (by rw [isOpen, decide_eq_true before]; rfl)
        exact openMinute_late (by rw [same]; omega)
      · exact openMinute_closedDay (by rw [same]; exact Bool.eq_false_iff.mpr isOpen)
    cases next : nextOpenDay (isOpenDay cfg closures) (d + 14) 14 d with
    | none =>
      have closed := openMinutes_noNext le_rfl next
      have total := openMinutes_split cfg closures (a := d * 1440 + m) (b := d * 1440 + 1440) (c := (min (d + 14) 65535 + 1) * 1440)
        (by omega) (by omega)
      exact ⟨fun y c start => (by cases start), fun _ => by rw [total, closedToday, closed]⟩
    | some z =>
      obtain ⟨lt, zLast, zMost, zOpen, _⟩ := nextOpenDay_some next
      have inZ := hours z
      have before : d * 1440 + m ≤ z * 1440 + (hoursOf cfg z).openAt := minute_le_of_day_lt lt (by omega)
      have toZ : d * 1440 + 1440 ≤ z * 1440 + (hoursOf cfg z).openAt := minute_le_of_day_lt lt le_rfl
      have total := openMinutes_split cfg closures toEnd toZ
      rw [closedToday, openMinutes_toNext hours next] at total
      refine ⟨fun y c start => ?_, fun none => (by cases none)⟩
      cases start
      exact ⟨lt.le, Nat.le_min.mpr ⟨zLast, zMost⟩, zOpen, le_rfl, inZ.1, before, total⟩

/-- The due of an hour loan by the opening minutes that the days after it hold (R80, R81). -/
theorem dueHour_spec {d m period : Nat} (day : d ≤ 65535) (minute : m ≤ 1439) (pos : period ≠ 0) :
    let total := openMinutes cfg closures (d * 1440 + m) ((min (d + 14) 65535 + 1) * 1440)
    let carried := d * 1440 + m + period * 60
    (period * 60 ≤ total →
      ∃ y mm, dueHour cfg (isOpenDay cfg closures) d m period = .due y (some mm) {} ∧ 1 ≤ mm ∧ mm ≤ 1440 ∧ d ≤ y ∧
        y ≤ min (d + 14) 65535 ∧ openMinutes cfg closures (d * 1440 + m) (y * 1440 + mm) = period * 60 ∧
        openMinute cfg closures (y * 1440 + mm - 1) = true) ∧
    (total < period * 60 → dueHour cfg (isOpenDay cfg closures) d m period =
      if 65535 < carried / 1440 then .calendarEnd Config.elapsedAtCalendarEnd
      else .due (carried / 1440) (some (carried % 1440)) { elapsed := true }) := by
  intro total carried
  obtain ⟨starts, neverStarts⟩ := hourStart_spec (closures := closures) hours day minute
  have split_ := @openMinutes_split cfg closures
  have empty := @openMinutes_empty cfg closures
  have counts := @countHours_spec cfg closures hours (d + 14) 15
  have total_eq : total = openMinutes cfg closures (d * 1440 + m) ((min (d + 14) 65535 + 1) * 1440) := rfl
  clear_value total
  have limitLe : min (d + 14) 65535 ≤ d + 14 := Nat.min_le_left ..
  generalize openMinutes cfg closures = count at *
  generalize min (d + 14) 65535 = limit at *
  unfold dueHour
  cases start : hourStart cfg (isOpenDay cfg closures) d m with
  | none =>
    refine ⟨fun enough => ?_, fun _ => rfl⟩
    rw [total_eq, neverStarts start] at enough
    omega
  | some point =>
    obtain ⟨y, c⟩ := point
    obtain ⟨le, within, isOpen, from_, upTo, later, closed⟩ := starts y c start
    have inY := hours y
    have onward : ∀ e, y * 1440 + c ≤ e → count (d * 1440 + m) e = count (y * 1440 + c) e := fun e reaches => by
      rw [split_ later reaches, closed, Nat.zero_add]
    have yToLast : y * 1440 + c ≤ (limit + 1) * 1440 := minute_le_end within (upTo.trans inY.2)
    rw [onward _ yToLast] at total_eq
    obtain ⟨some_, none_⟩ := counts (day := y) (c := c) (left := period * 60) (limitLe.trans_lt (by omega)) within
      (by omega) isOpen from_ upTo (Nat.mul_pos (Nat.pos_of_ne_zero pos) (by decide))
    rw [Option.bind_some]
    dsimp only
    refine ⟨fun enough => ?_, fun few => ?_⟩
    · obtain ⟨z, mm, found, one, most, leZ, upToLast, counted, open_⟩ := some_ (total_eq ▸ enough)
      refine ⟨z, mm, by rw [found], one, most, le.trans leZ, upToLast, ?_, open_⟩
      have reaches : y * 1440 + c ≤ z * 1440 + mm := by
        by_contra before
        rw [empty (Nat.le_of_not_le before)] at counted
        exact absurd counted.symm (Nat.mul_ne_zero pos (by decide))
      rw [onward _ reaches, counted]
    · rw [none_ (total_eq ▸ few)]
      rfl

end

/-! ### COMPUTE DUE (R82) -/

theorem hoursInOrder_of_settings {cfg : Configuration} (h : SettingsInRange cfg) : HoursInOrder cfg := fun day => h.hours _

/-- The due of a day loan by its two searches (R78, R79). -/
theorem dueDay_eq (isOpen : Nat → Bool) {d : Nat} (before : d ≠ 65535) (period : Nat) (term : Option Nat) :
    let raw := min (d + period) 65535
    ((∀ l, term = some l → l ≤ d ∨ raw ≤ l) →
      dueDay isOpen d period term = .due (searchForward isOpen 14 raw) none { closedDue := !isOpen (searchForward isOpen 14 raw) }) ∧
    (∀ l, term = some l → d < l → l < raw →
      dueDay isOpen d period term =
        .due (searchBack isOpen (d + 1) 14 l) none { clamped := true, closedDue := !isOpen (searchBack isOpen (d + 1) 14 l) }) := by
  intro raw
  have rule : dueDay isOpen d period term = _ := if_neg (show ¬ d = Config.lastDay from before)
  refine ⟨fun free => ?_, fun l limit after short => ?_⟩
  · have none : term.filter (fun l => decide (d < l) && decide (l < raw)) = none :=
      Option.filter_eq_none_iff.mpr fun l limit both => by
        simp only [Bool.and_eq_true, decide_eq_true_eq] at both
        have := free l limit
        omega
    dsimp only at rule
    rw [show term.filter (fun l => decide (d < l) && decide (l < min (d + period) Config.lastDay)) = Option.none from none] at rule
    exact rule
  · have clamp : term.filter (fun l => decide (d < l) && decide (l < raw)) = some l := by
      rw [limit]
      simp [after, short]
    dsimp only at rule
    rw [show term.filter (fun l => decide (d < l) && decide (l < min (d + period) Config.lastDay)) = some l from clamp] at rule
    exact rule

/-- Settles O40: the answers of COMPUTE DUE, and the due instant of each kind. -/
theorem computeDueAndTheDueInstant : Obligations.ComputeDueAndTheDueInstant := by
  unfold Obligations.ComputeDueAndTheDueInstant
  refine ⟨fun p ic bc s h => ⟨fun out => ?bad, fun hic hbc => ?good⟩, fun s d m ic bc hd hm settings => ?due⟩
  case bad =>
    refine h.answers computeDueCommand (.inl rfl) (show _ = refuse .badParameter s from ?_)
    have first : byteAt [ic, bc] 0 = ic := rfl
    have second : byteAt [ic, bc] 1 = bc := rfl
    unfold computeDueCommand
    rw [first, second]
    rcases out with out | out
    · rw [itemClassOfByte_none (by omega)]
    · rw [borrowerClassOfByte_none (by omega)]
      split <;> trivial
  case good =>
    intro kind outcome
    have first : byteAt [ic, bc] 0 = ic := rfl
    have second : byteAt [ic, bc] 1 = bc := rfl
    have rule : computeDueCommand p [ic, bc] s = if s.clock.unset then refuse .clockUnset s else done (outcome.bytes kind) s := by
      unfold computeDueCommand
      rw [first, second, itemClassOfByte_of hic, borrowerClassOfByte_of hbc]
    refine ⟨fun unset => h.answers computeDueCommand (.inl rfl) (rule.trans (if_pos unset)), fun set_ => ?_⟩
    rw [if_neg (by simp [set_])] at rule
    refine ⟨fun k => ?_, fun elapsed k => ?_, fun day minute facts k => ?_⟩
    all_goals rw [k] at rule
    · exact h.answers computeDueCommand (.inl rfl) rule
    · rw [h.answers (i := .computeDue p) computeDueCommand (.inl rfl) rule, deliver_done]
      cases elapsed <;> rfl
    · rw [h.answers (i := .computeDue p) computeDueCommand (.inl rfl) rule, deliver_done]
      obtain ⟨clamped, closedDue, elapsed⟩ := facts
      cases clamped <;> cases closedDue <;> cases elapsed <;> rfl
  case due =>
    intro period term isOpen due
    have rule : due = if period = 0 then .notLoanable else match (s.config.itemClasses.get ic).kind with
        | .day => dueDay isOpen d period term
        | .hour => dueHour s.config isOpen d m period := rfl
    refine ⟨fun none => rule.trans (if_pos none), fun some_ kind => ?_, fun some_ kind => ?_⟩
    · rw [if_neg some_, kind] at rule
      dsimp only at rule
      intro raw
      refine ⟨fun last => rule.trans (if_pos last), fun before => ?_⟩
      obtain ⟨free, clamped⟩ := dueDay_eq isOpen (d := d) (by omega) period term
      refine ⟨fun h => ?_, fun l limit after short => ?_⟩
      · exact ⟨_, rule.trans (free h), searchForward_spec isOpen 14 (by omega)⟩
      · exact ⟨_, rule.trans (clamped l limit after short), searchBack_spec isOpen (d + 1) 14 after⟩
    · rw [if_neg some_, kind] at rule
      dsimp only at rule
      intro now hours carried
      obtain ⟨enough, few⟩ := dueHour_spec (closures := s.rm.closures) (hoursInOrder_of_settings settings) hd hm some_
      refine ⟨fun fits => ?_, fun short => ⟨fun inCalendar => ?_, fun past => ?_⟩⟩
      · obtain ⟨y, mm, found, rest⟩ := enough fits
        exact ⟨y, mm, rule.trans found, rest⟩
      · refine rule.trans ((few short).trans (if_neg ?_))
        change carried < 65536 * 1440 at inCalendar
        change ¬ 65535 < carried / 1440
        omega
      · refine ⟨_, rule.trans ((few short).trans (if_pos ?_))⟩
        change 65536 * 1440 ≤ carried at past
        change 65535 < carried / 1440
        omega

end Sys2Proof.Machine
end

section
/-! PROOF. FIND, ABORT FIND and the end of a search, READ ENTRY with the layouts of the entries, and the movement of the
positions (O34; R40 to R43, TABLE 11-4). -/

namespace Sys2Proof.Machine

/-! ### What a search finds -/

theorem matchesPattern_iff (pattern c : Code) :
    matchesPattern pattern c = true ↔ ∀ q ∈ (digits pattern).zip (digits c), q.1 = 15 ∨ q.1 = q.2 := by
  simp [matchesPattern]

theorem patternBad_iff (pattern : Code) : patternBad pattern = true ↔ ∃ d ∈ digits pattern, 10 ≤ d ∧ d ≤ 14 := by
  simp [patternBad]

/-- The entry at an index has the field of the search, and its code meets the pattern digit by digit. -/
def Search.Fits (x : Search) (c : Collections) (i : Nat) : Prop :=
  ∃ code, (c.fieldCodes x.table x.field)[i]? = some (some code) ∧
    ∀ q ∈ (digits x.pattern).zip (digits code), q.1 = 15 ∨ q.1 = q.2

theorem Search.fits_iff (x : Search) (c : Collections) (i : Nat) :
    x.Fits c i ↔ ∃ f, (c.fieldCodes x.table x.field)[i]? = some f ∧ fieldMatches x.pattern f = true := by
  constructor
  · rintro ⟨code, entry, fits⟩
    exact ⟨some code, entry, (matchesPattern_iff _ _).mpr fits⟩
  · rintro ⟨f, entry, fits⟩
    cases f with
    | none => exact absurd fits (by simp [fieldMatches])
    | some code => exact ⟨code, entry, (matchesPattern_iff _ _).mp fits⟩

theorem Search.firstHit_some {x : Search} {c : Collections} {i : Nat} (from_ : x.position ≤ i) (fits : x.Fits c i)
    (first : ∀ j, x.position ≤ j → j < i → ¬ x.Fits c j) : x.firstHit c = some i := by
  obtain ⟨f, entry, meets⟩ := (x.fits_iff c i).mp fits
  obtain ⟨k, rfl⟩ := Nat.exists_eq_add_of_le from_
  have found : ((c.fieldCodes x.table x.field).drop x.position).findIdx? (fieldMatches x.pattern) = some k := by
    rw [List.findIdx?_eq_some_iff_getElem]
    obtain ⟨inside, entry⟩ := List.getElem?_eq_some_iff.mp entry
    refine ⟨by rw [List.length_drop]; omega, by rw [List.getElem_drop, entry]; exact meets, fun j before meets => ?_⟩
    rw [List.getElem_drop] at meets
    exact first (x.position + j) (by omega) (by omega)
      ((x.fits_iff c _).mpr ⟨_, List.getElem?_eq_getElem (by omega), meets⟩)
  rw [Search.firstHit, found, Option.map_some, Nat.add_comm]

theorem Search.firstHit_none {x : Search} {c : Collections} (misses : ∀ i, x.position ≤ i → ¬ x.Fits c i) :
    x.firstHit c = none := by
  rw [Search.firstHit, Option.map_eq_none_iff, List.findIdx?_eq_none_iff]
  intro f there
  obtain ⟨k, entry⟩ := List.getElem?_of_mem there
  rw [List.getElem?_drop] at entry
  rw [← Bool.not_eq_true]
  exact fun meets => misses (x.position + k) (by omega) ((x.fits_iff c _).mpr ⟨f, entry, meets⟩)

theorem onFindDone_hit {p : Port} {s : State} {x : Search} {i : Nat} (runs : s.running = true)
    (search : (s.port p).search = some x) (hit : x.firstHit s.rm = some i) :
    onFindDone p s = endSearch p (findDoneEvent .hit (some i)) s := by
  simp [onFindDone, search, runs, hit]

theorem onFindDone_miss {p : Port} {s : State} {x : Search} (runs : s.running = true)
    (search : (s.port p).search = some x) (miss : x.firstHit s.rm = none) :
    onFindDone p s = endSearch p (findDoneEvent .miss none) s := by
  simp [onFindDone, search, runs, miss]

theorem exec_findDone (p : Port) (s : State) : exec (.findDone p) s = .next (onFindDone p s) := by rfl

/-! ### FIND, ABORT FIND and READ ENTRY -/

theorem find_without_field {p : Port} {s : State} {n f hi lo : Byte} {pattern : List Byte}
    (without : ∀ t g, tableOfByte n = some t → fieldOfByte f = some g → hasFindField t g = false) :
    find p ([n, f, hi, lo] ++ pattern) s = refuse .badParameter s := by
  have bytes : byteAt ([n, f, hi, lo] ++ pattern) 0 = n ∧ byteAt ([n, f, hi, lo] ++ pattern) 1 = f := ⟨rfl, rfl⟩
  rw [find, bytes.1, bytes.2]
  cases table : tableOfByte n with
  | none => rfl
  | some t =>
    cases field : fieldOfByte f with
    | none => rfl
    | some g => simp [without t g table field]

theorem find_field {p : Port} {s : State} {n f hi lo : Byte} {pattern : Code} {t : Table} {g : Field}
    (table : tableOfByte n = some t) (field : fieldOfByte f = some g) (has : hasFindField t g = true) :
    find p ([n, f, hi, lo] ++ codeBytes pattern) s =
      if patternBad pattern then refuse .badParameter s
      else if (s.port p).search.isSome then refuse .busy s
      else done [] (s.putPort p { s.port p with
        search := some ⟨t, g, pattern, min (hi.toNat * 256 + lo.toNat) (s.rm.count t)⟩ }) := by
  have bytes : byteAt ([n, f, hi, lo] ++ codeBytes pattern) 0 = n ∧ byteAt ([n, f, hi, lo] ++ codeBytes pattern) 1 = f :=
    ⟨rfl, rfl⟩
  have number : numAt ([n, f, hi, lo] ++ codeBytes pattern) 2 = hi.toNat * 256 + lo.toNat := by
    simp [numAt_cons]
  have code : codeAt ([n, f, hi, lo] ++ codeBytes pattern) 4 = pattern := by simp [codeAt_cons]
  rw [find, bytes.1, bytes.2, table, field, number, code]
  simp [has]

theorem readEntry_of {p : Port} {s : State} {n hi lo : Byte} {t : Table} (table : tableOfByte n = some t) :
    readEntry p [n, hi, lo] s = match s.rm.entryBytes t (hi.toNat * 256 + lo.toNat) with
      | some bytes => done bytes s
      | none => refuse .empty s := by
  have byte : byteAt [n, hi, lo] 0 = n := rfl
  have number : numAt [n, hi, lo] 1 = hi.toNat * 256 + lo.toNat := by simp [numAt_cons]
  rw [readEntry, byte, table, number] <;> rfl

theorem tableOfByte_outside {n : Byte} (outside : 5 < n.toNat) : tableOfByte n = none := by
  have apart : ∀ k : Byte, k.toNat ≤ 5 → n ≠ k := by
    rintro k low rfl
    omega
  simp [tableOfByte, apart]

theorem entryBytes_none_iff (c : Collections) (t : Table) (i : Nat) : c.entryBytes t i = none ↔ c.count t ≤ i := by
  cases t <;> simp [Collections.entryBytes, Collections.count]

/-! ### The layouts of TABLE 11-4 -/

/-- The length of an entry of a table. -/
def entryLength : Table → Nat
  | .journal => 30
  | .loans => 27
  | .blocks => 11
  | .flags => 17
  | .balances => 10
  | .closures => 2

theorem length_entryBytes {c : Collections} {t : Table} {i : Nat} {bytes : List Byte}
    (entry : c.entryBytes t i = some bytes) : bytes.length = entryLength t := by
  cases t <;> obtain ⟨x, -, rfl⟩ := Option.map_eq_some_iff.mp entry
  case journal =>
    cases amount : x.amount <;> simp [Record.bytes, entryLength, be16, length_codeOrAbsent, length_be16OrAbsent, amount,
      be24OrAbsent, be24, absent]
  case loans => simp [Loan.bytes, entryLength, be16, length_be16OrAbsent]
  case blocks => simp [Block.bytes, entryLength, be16]
  case flags => simp [FlagEntry.bytes, entryLength, be16, length_codeOrAbsent]
  case balances => simp [Balance.bytes, entryLength, be24]
  case closures => rfl

theorem toNat_kindByte (r : Record) : r.kindByte.toNat = (if r.sent then 128 else 0) + r.kind.code.toNat := by
  cases sent : r.sent <;> cases kind : r.kind <;> simp [Record.kindByte, sent, kind, RecordKind.code]

/-- The station's nibble of a record's place. -/
def stationNibble : Option Station → Nat
  | some st => stationNumber st
  | none => 15

theorem stationNibble_lt (station : Option Station) : stationNibble station < 16 := by
  rcases station with - | st
  · decide
  · cases st <;> decide

theorem toNat_placeByte (r : Record) : r.placeByte.toNat = 16 * portNumber r.port + stationNibble r.station := by
  have split : r.placeByte = byte (16 * portNumber r.port + stationNibble r.station) := by
    unfold Record.placeByte
    cases r.station <;> rfl
  have low := stationNibble_lt r.station
  have high : portNumber r.port ≤ 1 := by cases r.port <;> decide
  rw [split, byte, BitVec.toNat_ofNat, Nat.mod_eq_of_lt (by omega)]

theorem recordFlags_bits (f : RecordFlags) :
    f.code.getLsbD 0 = f.notTabled ∧ f.code.getLsbD 1 = f.overridden ∧ f.code.getLsbD 2 = f.hour ∧
      f.code.getLsbD 3 = f.implicit ∧ f.code.getLsbD 4 = f.unknown ∧ f.code.getLsbD 5 = f.foreign ∧
      f.code.getLsbD 6 = f.untracked ∧ f.code.getLsbD 7 = f.localLogic := by
  obtain ⟨notTabled, overridden, hour, implicit, unknown, foreign, untracked, localLogic⟩ := f
  revert notTabled overridden hour implicit unknown foreign untracked localLogic
  decide

theorem codeBytes_powers (c : Code) :
    codeBytes c = [6, 5, 4, 3, 2, 1, 0].map (fun k => BitVec.ofNat 8 (c.toNat / 256 ^ k)) := by
  simp [codeBytes, be24, be16, byte, Nat.div_div_eq_div_mul]

/-! ### The movement of a position -/

theorem drop_insertedAt {l : List Code} {x : Code} {i position : Nat} (inside : i ≤ l.length) :
    (l.take i ++ x :: l.drop i).drop (insertedAt i position) =
      if i < position then l.drop position else (l.take i).drop position ++ x :: l.drop i := by
  have width : (l.take i).length = i := by simp [inside]
  by_cases before : i < position
  · have past : (l.take i).drop (position + 1) = [] := List.drop_eq_nil_of_le (by omega)
    have step : position + 1 - i = position - i + 1 := by omega
    rw [insertedAt, if_pos before, if_pos before, List.drop_append, past, width, step, List.drop_succ_cons, List.drop_drop,
      List.nil_append, Nat.add_sub_cancel' (by omega)]
  · rw [insertedAt, if_neg before, if_neg before, List.drop_append, width, Nat.sub_eq_zero_of_le (by omega), List.drop_zero]

theorem drop_removedAt {l : List Code} {i position : Nat} (inside : i < l.length) :
    (l.take i ++ l.drop (i + 1)).drop (removedAt i position) =
      if i < position then l.drop position else (l.take i).drop position ++ l.drop (i + 1) := by
  have width : (l.take i).length = i := by simp; omega
  by_cases before : i < position
  · have past : (l.take i).drop (position - 1) = [] := List.drop_eq_nil_of_le (by omega)
    rw [removedAt, if_pos before, if_pos before, List.drop_append, past, width, List.drop_drop, List.nil_append]
    congr 1
    omega
  · rw [removedAt, if_neg before, if_neg before, List.drop_append, width, Nat.sub_eq_zero_of_le (by omega), List.drop_zero]

theorem moveSearches_port (t : Table) (f : Nat → Nat) (s : State) (p : Port) :
    (moveSearches t f s).port p = { s.port p with
      search := (s.port p).search.map (fun x => if x.table = t then { x with position := f x.position } else x) } := by
  cases p <;> rfl

/-! ### The obligation -/

/-- FIND in a field that the table has, with its checks in order. -/
theorem find_answers {p : Port} {s : State} {n f hi lo : Byte} {pattern : Code} {t : Table} {g : Field}
    (h : Executing s p 0x30#8 ([n, f, hi, lo] ++ codeBytes pattern)) (table : tableOfByte n = some t)
    (field : fieldOfByte f = some g) (has : hasFindField t g = true) :
    exec (.find p) s = .next (
      if ∃ d ∈ digits pattern, 10 ≤ d ∧ d ≤ 14 then s.withResult p [0x03#8]
      else if (s.port p).search.isSome then s.withResult p [0x06#8]
      else (s.putPort p { s.port p with
        search := some ⟨t, g, pattern, min (hi.toNat * 256 + lo.toNat) (s.rm.count t)⟩ }).withResult p [0x00#8]) := by
  rw [h.answers (i := .find p) find (.inl rfl) (find_field table field has)]
  by_cases bad : patternBad pattern = true
  · rw [if_pos bad, if_pos ((patternBad_iff _).mp bad), deliver_refuse] <;> rfl
  rw [if_neg bad, if_neg (fun h => bad ((patternBad_iff _).mpr h))]
  by_cases busy : (s.port p).search.isSome = true
  · rw [if_pos busy, if_pos busy, deliver_refuse] <;> rfl
  · rw [if_neg busy, if_neg busy, deliver_done]

theorem readEntry_reads {p : Port} {s : State} {n hi lo : Byte} (h : Executing s p 0x32#8 [n, hi, lo]) {t : Table}
    {bytes : List Byte} (table : tableOfByte n = some t)
    (entry : s.rm.entryBytes t (hi.toNat * 256 + lo.toNat) = some bytes) :
    exec (.readEntry p) s = .next (s.withResult p (0x00#8 :: bytes)) := by
  have answer : readEntry p [n, hi, lo] s = done bytes s := by rw [readEntry_of table, entry]
  rw [h.answers (i := .readEntry p) readEntry (.inl rfl) answer, deliver_done]

theorem readEntry_journal {p : Port} {s : State} {hi lo : Byte} (h : Executing s p 0x32#8 [0x00#8, hi, lo]) {r : Record}
    (entry : s.rm.journal[hi.toNat * 256 + lo.toNat]? = some r) :
    exec (.readEntry p) s = .next (s.withResult p (0x00#8 :: r.bytes)) :=
  readEntry_reads h rfl (by rw [Collections.entryBytes, entry, Option.map_some])

/-- Settles O34: the search's first match is the least index that fits, and an entry is read in the layout of its table. -/
theorem searchesAndEntriesRead : Obligations.SearchesAndEntriesRead := by
  unfold Obligations.SearchesAndEntriesRead
  refine ⟨fun p s => ⟨fun n f hi lo pattern h => ⟨fun without => ?_, fun t g table field has => ?_⟩, fun h => ⟨?_, ?_⟩,
      fun x runs search => ⟨fun i from_ fits first => ?_, fun misses => ?_⟩⟩,
    fun p s n hi lo h => ⟨fun outside => ?_, fun t table beyond => ?_, fun t table inside => ?_, ?_, ?_, ?_, ?_, ?_, ?_⟩,
    fun x c => ⟨rfl, rfl, codeBytes_powers c, rfl, rfl, rfl, rfl, rfl, rfl⟩,
    fun l x i position => ⟨drop_insertedAt, drop_removedAt⟩, fun t f s => ⟨moveSearches_frame t f s, moveSearches_port t f s⟩⟩
  · rw [h.answers (i := .find p) find (.inl rfl) (find_without_field without), deliver_refuse] <;> rfl
  · exact find_answers h table field has
  · intro idle
    have answer : abortFind p [] s = refuse .wrongState s := by simp [abortFind, idle]
    rw [h.answers (i := .abortFind p) abortFind (.inl rfl) answer, deliver_refuse] <;> rfl
  · intro busy
    obtain ⟨x, search⟩ := Option.ne_none_iff_exists'.mp busy
    have answer : abortFind p [] s = done [] (endSearch p (findDoneEvent .aborted none) s) := by simp [abortFind, search]
    rw [h.answers (i := .abortFind p) abortFind (.inl rfl) answer, deliver_done] <;> rfl
  · rw [exec_findDone, onFindDone_hit runs search (Search.firstHit_some from_ fits first)] <;> rfl
  · rw [exec_findDone, onFindDone_miss runs search (Search.firstHit_none misses)] <;> rfl
  · have answer : readEntry p [n, hi, lo] s = refuse .badParameter s := by
      have byte : byteAt [n, hi, lo] 0 = n := rfl
      rw [readEntry, byte, tableOfByte_outside outside]
    rw [h.answers (i := .readEntry p) readEntry (.inl rfl) answer, deliver_refuse] <;> rfl
  · have answer : readEntry p [n, hi, lo] s = refuse .empty s := by
      rw [readEntry_of table, (entryBytes_none_iff _ _ _).mpr beyond]
    rw [h.answers (i := .readEntry p) readEntry (.inl rfl) answer, deliver_refuse] <;> rfl
  · obtain ⟨bytes, entry⟩ := Option.ne_none_iff_exists'.mp
      (fun none => absurd ((entryBytes_none_iff s.rm t _).mp none) (Nat.not_le.mpr inside))
    refine ⟨bytes, readEntry_reads h table entry, entry, ?_⟩
    rw [length_entryBytes entry] <;> cases t <;> rfl
  · rintro r rfl entry
    refine ⟨r.kindByte, r.placeByte, r.flags.code, readEntry_journal h entry, ?_, ?_, ?_, recordFlags_bits r.flags⟩
    · rw [toNat_kindByte]
      cases r.kind <;> rfl
    · have low := stationNibble_lt r.station
      rw [toNat_placeByte, show (16 * portNumber r.port + stationNibble r.station) / 16 = portNumber r.port by omega]
      cases r.port <;> rfl
    · have low := stationNibble_lt r.station
      rw [toNat_placeByte, show (16 * portNumber r.port + stationNibble r.station) % 16 = stationNibble r.station by omega]
      rcases r.station with - | st
      · rfl
      · cases st <;> rfl
  · rintro l rfl entry
    exact readEntry_reads h rfl (by rw [Collections.entryBytes, entry, Option.map_some] <;> rfl)
  · rintro b rfl entry
    refine readEntry_reads h rfl ?_
    rw [Collections.entryBytes, entry, Option.map_some, Block.bytes]
    cases b.reason <;> cases b.origin <;> rfl
  · rintro f rfl entry
    refine readEntry_reads h rfl ?_
    rw [Collections.entryBytes, entry, Option.map_some, FlagEntry.bytes]
    cases f.flag <;> rfl
  · rintro b rfl entry
    exact readEntry_reads h rfl (by rw [Collections.entryBytes, entry, Option.map_some] <;> rfl)
  · rintro day rfl entry
    exact readEntry_reads h rfl (by rw [Collections.entryBytes, entry, Option.map_some])

end Sys2Proof.Machine
end

section
/-! PROOF. The accesses of a port: the bus cycle, the data byte in each phase, and a command written byte by byte (O8; R170 to
R173, R175, R176). -/

namespace Sys2Proof.Machine

/-! ### The bus cycle -/

theorem exec_disregardedAccess (p : Port) (c : BusCycle) (s : State) :
    exec (.disregardedAccess p c) s = .next (busCycle p c s) := by rfl

theorem accessOf_none {c : BusCycle} (h : c.chipSelect = false ∨ c.readStrobe = c.writeStrobe) : accessOf c = none := by
  obtain ⟨select, read, write, high, data⟩ := c
  rcases h with none | same
  · obtain rfl : select = false := none
    rfl
  · obtain rfl : read = write := same
    simp [accessOf]

theorem accessOf_read {c : BusCycle} (select : c.chipSelect = true) (read : c.readStrobe = true) (write : c.writeStrobe = false) :
    accessOf c = some (if c.addressHigh then .dataRead else .statusRead) := by
  cases high : c.addressHigh <;> simp [accessOf, select, read, write, high]

theorem accessOf_write {c : BusCycle} (select : c.chipSelect = true) (read : c.readStrobe = false) (write : c.writeStrobe = true) :
    accessOf c = some (if c.addressHigh then .dataWrite c.data else .statusWrite c.data) := by
  cases high : c.addressHigh <;> simp [accessOf, select, read, write, high]

/-! ### The data byte, by phase -/

theorem exec_commandCodeTaken (p : Port) (b : Byte) (s : State) : exec (.commandCodeTaken p b) s = .next (dataWrite p b s) := by
  rfl
theorem exec_unknownCommand (p : Port) (b : Byte) (s : State) : exec (.unknownCommand p b) s = .next (dataWrite p b s) := by rfl
theorem exec_parameterByteWrite (p : Port) (b : Byte) (s : State) : exec (.parameterByteWrite p b) s = .next (dataWrite p b s) := by
  rfl
theorem exec_resultByteRead (p : Port) (s : State) : exec (.resultByteRead p) s = .next (dataRead p s) := by rfl

theorem dataWrite_known {p : Port} {b : Byte} {s : State} {n : Nat} (runs : s.running = true)
    (idle : (s.port p).phase = .commandIdle) (known : fixedParameters b = some n) :
    dataWrite p b s = s.putPort p { s.port p with
      ignored := false, command := [b], phase := if n = 0 then .executing else .commandParams } := by
  simp [dataWrite, runs, idle, takeCommandCode, known]

theorem dataWrite_unknown {p : Port} {b : Byte} {s : State} (runs : s.running = true)
    (idle : (s.port p).phase = .commandIdle) (unknown : fixedParameters b = none) :
    dataWrite p b s = s.putPort p { s.port p with
      ignored := false, command := [b], result := [0x01#8], phase := .result } := by
  simp [dataWrite, runs, idle, takeCommandCode, unknown, Completion.code]

theorem dataWrite_parameter {p : Port} {b code : Byte} {params : List Byte} {s : State} (runs : s.running = true)
    (phase : (s.port p).phase = .commandParams) (command : (s.port p).command = code :: params) :
    dataWrite p b s = s.putPort p { s.port p with
      command := code :: (params ++ [b]),
      phase := if parametersWanted code (params ++ [b]) ≤ params.length + 1 then .executing else .commandParams } := by
  simp [dataWrite, runs, phase, takeParameter, command]

theorem parametersWanted_note (params : List Byte) (b : Byte) : parametersWanted 0x50#8 (params ++ [b]) =
    if 1 ≤ (params ++ [b]).head!.toNat ∧ (params ++ [b]).head!.toNat ≤ 6 then 1 + 32 * (params ++ [b]).head!.toNat else 1 := by
  cases params <;> simp only [parametersWanted, List.nil_append, List.cons_append, List.head!_cons, Bool.and_eq_true,
    decide_eq_true_eq, if_true] <;> exact if_congr Iff.rfl rfl rfl

theorem parametersWanted_other {code : Byte} (h : code ≠ 0x50#8) (params : List Byte) :
    parametersWanted code params = (fixedParameters code).getD 0 := by
  simp [parametersWanted, h]

theorem dataRead_result {p : Port} {b : Byte} {rest : List Byte} {s : State} (runs : s.running = true)
    (phase : (s.port p).phase = .result) (result : (s.port p).result = b :: rest) :
    dataRead p s = s.putPort p { s.port p with
      readOut := some b, result := rest, phase := if rest = [] then .commandIdle else .result } := by
  simp [dataRead, runs, phase, takeResultByte, returnByte, result]

theorem dataRead_disregarded {p : Port} {s : State} (runs : s.running = true) (phase : (s.port p).phase ≠ .result) :
    dataRead p s = s.putPort p { s.port p with ignored := true, readOut := some 0xFF#8 } := by
  cases here : (s.port p).phase
  case result => exact absurd here phase
  all_goals simp [dataRead, runs, here, returnByte, disregard]

theorem dataWrite_disregarded {p : Port} {b : Byte} {s : State} (runs : s.running = true)
    (phase : (s.port p).phase = .executing ∨ (s.port p).phase = .result) :
    dataWrite p b s = s.putPort p { s.port p with ignored := true } := by
  rcases phase with here | here <;> simp [dataWrite, runs, here, disregard]

/-! ### A command written byte by byte -/

theorem run_succ (M : Host.Core) {s t : M.State} (h : M.step s = .next t) (n : Nat) : M.run (n + 1) s = M.run n t := by
  rw [Host.Core.run, h]

theorem core_run_succ {s t : State} (h : step s = .next t) (n : Nat) :
    Sys2Proof.core.run (n + 1) s = Sys2Proof.core.run n t :=
  run_succ Sys2Proof.core h n

/-- The port that has taken a code and some of its parameters and waits for the rest. -/
structure Collecting (s : State) (p : Port) (code : Byte) (taken more : List Byte) : Prop where
  running : s.running = true
  command : (s.port p).command = code :: taken
  phase : (s.port p).phase = if more = [] then .executing else .commandParams

theorem Collecting.next {s : State} {p : Port} {code b : Byte} {taken more : List Byte} (h : Collecting s p code taken (b :: more))
    (other : code ≠ 0x50#8) (known : fixedParameters code = some (taken.length + (more.length + 1))) :
    Collecting (dataWrite p b s) p code (taken ++ [b]) more ∧
      dataWrite p b s = s.putPort p ((dataWrite p b s).port p) := by
  have phase : (s.port p).phase = .commandParams := h.phase
  rw [dataWrite_parameter h.running phase h.command, parametersWanted_other other, known, Option.getD_some]
  refine ⟨⟨h.running, by simp, ?_⟩, by simp⟩
  cases more <;> simp

theorem putPort_pending_putPort (u : State) (p : Port) (x y : PortState) (rest : List Instr) :
    { u.putPort p x with pending := rest }.putPort p y = { u with pending := rest }.putPort p y :=
  State.putPort_putPort { u with pending := rest } p x y

/-- By induction on the parameters that are still to be written. -/
theorem run_parameters {p : Port} {code : Byte} (other : code ≠ 0x50#8) (rest : List Instr) :
    ∀ (more taken : List Byte) (s : State), Collecting s p code taken more →
      fixedParameters code = some (taken.length + more.length) →
      s.pending = more.map (Instr.parameterByteWrite p) ++ rest →
      ∃ t, Sys2Proof.core.run more.length s = .next t ∧ Executing t p code (taken ++ more) ∧ t.pending = rest ∧
        t = { s with pending := rest }.putPort p (t.port p) := by
  intro more
  induction more with
  | nil =>
    rintro taken s h - pending
    refine ⟨s, rfl, ⟨h.running, h.phase, by rw [h.command, List.append_nil]⟩, pending, ?_⟩
    have same : { s with pending := rest } = s := by rw [← show s.pending = rest from pending]
    rw [same, State.putPort_self]
  | cons b more ih =>
    intro taken s h known pending
    obtain ⟨u, u_eq⟩ : ∃ u : State, { s with pending := more.map (Instr.parameterByteWrite p) ++ rest } = u := ⟨_, rfl⟩
    have collecting : Collecting u p code taken (b :: more) := u_eq ▸ ⟨h.running, h.command, h.phase⟩
    obtain ⟨collects, frame⟩ := collecting.next other known
    have waits : (dataWrite p b u).pending = more.map (Instr.parameterByteWrite p) ++ rest := by
      rw [frame, State.putPort_pending, ← u_eq]
    obtain ⟨t, run, executing, pending', frame'⟩ := ih (taken ++ [b]) (dataWrite p b u) collects
      (by rw [known, List.length_append, List.length_cons, List.length_singleton, Nat.add_assoc, Nat.add_comm 1]) waits
    have first : step s = .next (dataWrite p b u) := by
      rw [step_front pending, exec_parameterByteWrite, ← u_eq] <;> rfl
    refine ⟨t, by rw [List.length_cons, core_run_succ first, run], by simpa using executing, pending', ?_⟩
    rw [frame, putPort_pending_putPort, ← u_eq] at frame'
    exact frame'

theorem run_command {p : Port} {code : Byte} {params : List Byte} {rest : List Instr} {s : State} (runs : s.running = true)
    (idle : (s.port p).phase = .commandIdle) (other : code ≠ 0x50#8) (known : fixedParameters code = some params.length)
    (pending : s.pending = .commandCodeTaken p code :: (params.map (Instr.parameterByteWrite p) ++ rest)) :
    ∃ t, Sys2Proof.core.run (1 + params.length) s = .next t ∧ Executing t p code params ∧ t.pending = rest ∧
      t = { s with pending := rest }.putPort p (t.port p) := by
  obtain ⟨u, u_eq⟩ : ∃ u : State, { s with pending := params.map (Instr.parameterByteWrite p) ++ rest } = u := ⟨_, rfl⟩
  have taken := dataWrite_known (s := u) (p := p) (by rw [← u_eq]; exact runs) (by rw [← u_eq]; exact idle) known
  have collects : Collecting (dataWrite p code u) p code [] params := by
    rw [taken]
    refine ⟨by rw [State.putPort_running, ← u_eq]; exact runs, by simp, ?_⟩
    cases params <;> simp
  have waits : (dataWrite p code u).pending = params.map (Instr.parameterByteWrite p) ++ rest := by
    rw [taken, State.putPort_pending, ← u_eq]
  have first : step s = .next (dataWrite p code u) := by
    rw [step_front pending, exec_commandCodeTaken, ← u_eq] <;> rfl
  obtain ⟨t, run, executing, pending', frame⟩ := run_parameters other rest params [] _ collects (by simpa using known) waits
  refine ⟨t, by rw [Nat.add_comm, core_run_succ first, run], executing, pending', ?_⟩
  rw [taken, putPort_pending_putPort, ← u_eq] at frame
  exact frame

/-! ### The obligation -/

/-- Settles O8: one equation for each phase of an access, and the writes of a command by induction on its parameters. -/
theorem dataByteAccesses : Obligations.DataByteAccesses := by
  unfold Obligations.DataByteAccesses
  refine ⟨fun p c s => ⟨fun none => ?_, fun select read write => ?_, fun select read write => ?_⟩,
    fun p b s runs idle => ⟨fun n known => ?_, fun unknown => ?_⟩, fun p b code params s runs phase command => ?_,
    fun p b rest s runs => ⟨fun phase result => ?_, fun phase => ?_, fun phase => ?_⟩,
    fun p code params rest s runs idle other known pending => run_command runs idle other known pending⟩
  · rw [exec_disregardedAccess, busCycle, accessOf_none none]
  · rw [exec_disregardedAccess, busCycle, accessOf_read select read write]
    cases c.addressHigh <;> rfl
  · rw [exec_disregardedAccess, busCycle, accessOf_write select read write]
    cases c.addressHigh
    · by_cases reset : c.data = 0x5A#8
      · simp [statusWrite, reset]
        rfl
      · simp [statusWrite, reset]
    · rfl
  · rw [exec_commandCodeTaken, dataWrite_known runs idle known]
  · rw [exec_unknownCommand, dataWrite_unknown runs idle unknown]
  · rw [exec_parameterByteWrite, dataWrite_parameter runs phase command]
    by_cases note : code = 0x50#8
    · subst note
      rw [parametersWanted_note] <;> rfl
    · rw [parametersWanted_other note, if_neg note]
  · rw [exec_resultByteRead, dataRead_result runs phase result]
  · rw [exec_disregardedAccess, ← dataRead_disregarded runs phase] <;> rfl
  · rw [exec_disregardedAccess, ← dataWrite_disregarded (b := b) runs phase] <;> rfl

end Sys2Proof.Machine
end

section
/-! PROOF. What a slip holds and what is printed of it: the numbers, the dates, the item entries and the lines of each kind
(O42; R83, R84, R122, R127, R129, TABLE 7-3, TABLE 7-4). -/

namespace Sys2Proof.Machine

/-! ### Decimal digits -/

/-- The number that a row of digits spells. -/
def spelled (l : List Byte) : Nat := l.foldl (fun v b => v * 10 + (b.toNat - 0x30)) 0

/-- A row of the digits 0 to 9. -/
def DigitsOnly (l : List Byte) : Prop := ∀ b ∈ l, 0x30 ≤ b.toNat ∧ b.toNat ≤ 0x39

theorem toNat_digitChar {d : Nat} (h : d < 10) : (digitChar d).toNat = 48 + d := by
  rw [digitChar, byte, BitVec.toNat_ofNat, Nat.mod_eq_of_lt (by omega)]

theorem spelled_concat (l : List Byte) {d : Nat} (h : d < 10) : spelled (l ++ [digitChar d]) = spelled l * 10 + d := by
  rw [spelled, List.foldl_append, List.foldl_cons, List.foldl_nil, toNat_digitChar h, Nat.add_sub_cancel_left] <;> rfl

theorem digitsOnly_concat {l : List Byte} (digits : DigitsOnly l) {d : Nat} (h : d < 10) :
    DigitsOnly (l ++ [digitChar d]) := by
  intro b there
  rcases List.mem_append.mp there with before | last
  · exact digits b before
  · rw [List.mem_singleton.mp last, toNat_digitChar h]
    omega

theorem digitsOnly_nil : DigitsOnly [] := fun _ h => absurd h List.not_mem_nil

/-- The last of the padded digits is the units digit. -/
theorem padded_succ (w n : Nat) : padded (w + 1) n = padded w (n / 10) ++ [digitChar (n % 10)] := by
  rw [padded, List.range_succ, List.map_append, List.map_singleton, padded]
  congr 1
  · refine List.map_congr_left fun i here => ?_
    have inside := List.mem_range.mp here
    have power : 10 ^ (w + 1 - 1 - i) = 10 * 10 ^ (w - 1 - i) := by
      rw [show w + 1 - 1 - i = (w - 1 - i) + 1 by omega, Nat.pow_succ, Nat.mul_comm]
    rw [power, Nat.div_div_eq_div_mul]
  · simp

theorem length_padded (w n : Nat) : (padded w n).length = w := by simp [padded]

theorem digitsOnly_padded (w n : Nat) : DigitsOnly (padded w n) := by
  induction w generalizing n with
  | zero => exact digitsOnly_nil
  | succ w ih => rw [padded_succ]; exact digitsOnly_concat (ih _) (Nat.mod_lt _ (by decide))

theorem spelled_padded (w n : Nat) : spelled (padded w n) = n % 10 ^ w := by
  induction w generalizing n with
  | zero => rw [Nat.pow_zero, Nat.mod_one]; rfl
  | succ w ih =>
    rw [padded_succ, spelled_concat _ (Nat.mod_lt _ (by decide)), ih, Nat.pow_succ, Nat.mul_comm (10 ^ w), Nat.mod_mul]
    omega

/-- What a number of at most `fuel` digits has as its decimal digits. -/
structure Spells (l : List Byte) (n : Nat) : Prop where
  digits : DigitsOnly l
  value : spelled l = n
  some_ : l ≠ []
  leading : l.head? = some 0x30#8 → n = 0

theorem spells_digit {n : Nat} (h : n < 10) : Spells [digitChar n] n where
  digits := digitsOnly_concat (l := []) digitsOnly_nil h
  value := by
    have value := spelled_concat [] h
    exact value.trans (Nat.zero_add n)
  some_ := List.cons_ne_nil _ _
  leading zero := by
    have char : digitChar n = 0x30#8 := Option.some.inj zero
    have number := toNat_digitChar h
    rw [char] at number
    exact (Nat.add_left_cancel (n := 48) number).symm

theorem Spells.concat {l : List Byte} {n : Nat} (h : Spells l (n / 10)) (large : 10 ≤ n) :
    Spells (l ++ [digitChar (n % 10)]) n where
  digits := digitsOnly_concat h.digits (Nat.mod_lt _ (by decide))
  value := by rw [spelled_concat _ (Nat.mod_lt _ (by decide)), h.value]; omega
  some_ := by simp
  leading zero := by
    rw [List.head?_append_of_ne_nil _ h.some_] at zero
    have := h.leading zero
    omega

theorem spells_decimalDigits (fuel n : Nat) (h : n < 10 ^ (fuel + 1)) : Spells (decimalDigits (fuel + 1) n) n := by
  induction fuel generalizing n with
  | zero =>
    have small : n < 10 := h
    have alone : decimalDigits 1 n = [digitChar n] := by simp [decimalDigits, Nat.mod_eq_of_lt small]
    exact alone ▸ spells_digit small
  | succ fuel ih =>
    rw [decimalDigits]
    by_cases small : n < 10
    · rw [if_pos small, List.nil_append, Nat.mod_eq_of_lt small]
      exact spells_digit small
    · rw [if_neg small]
      exact (ih (n / 10) (by rw [Nat.pow_succ] at h; omega)).concat (by omega)

theorem spells_decimal {n : Nat} (h : n < 10 ^ 20) : Spells (decimal n) n := spells_decimalDigits 19 n h

/-! ### Dates -/

/-- The days of the years from one year up to, not including, another. -/
def daysOfYears (first next : Nat) : Nat := ((List.range' first (next - first)).map yearLength).sum

theorem daysOfYears_eq (first next : Nat) :
    daysOfYears first next = ((List.range' first (next - first)).map (fun y => if isLeap y then 366 else 365)).sum := rfl

theorem daysOfYears_same (year : Nat) : daysOfYears year year = 0 := by simp [daysOfYears]

theorem daysOfYears_first {first next : Nat} (h : first < next) :
    daysOfYears first next = yearLength first + daysOfYears (first + 1) next := by
  rw [daysOfYears, show next - first = (next - (first + 1)) + 1 by omega, List.range'_succ, List.map_cons, List.sum_cons,
    daysOfYears]

theorem yearLength_ge (year : Nat) : 365 ≤ yearLength year := by
  rw [yearLength]
  split <;> omega

/-- Enough years looked through leave an offset within the year found. -/
theorem yearOf_spec (fuel year rest : Nat) (enough : rest < 365 * fuel) :
    year ≤ (yearOf fuel year rest).1 ∧ (yearOf fuel year rest).2 < yearLength (yearOf fuel year rest).1 ∧
      rest = daysOfYears year (yearOf fuel year rest).1 + (yearOf fuel year rest).2 := by
  induction fuel generalizing year rest with
  | zero => omega
  | succ fuel ih =>
    have long := yearLength_ge year
    rw [yearOf]
    by_cases past : yearLength year ≤ rest
    · rw [if_pos past]
      obtain ⟨later, inside, total⟩ := ih (year + 1) (rest - yearLength year) (by omega)
      exact ⟨by omega, inside, by rw [daysOfYears_first (by omega)]; omega⟩
    · rw [if_neg past]
      exact ⟨Nat.le_refl year, Nat.lt_of_not_le past, by rw [daysOfYears_same, Nat.zero_add]⟩

/-- In a rising list the entries up to a bound stand before the others. -/
theorem rising_countP {l : List Nat} (rising : l.Pairwise (· < ·)) (x i d : Nat) :
    (i < l.countP (· ≤ x) → l.getD i d ≤ x) ∧ (l.countP (· ≤ x) ≤ i → x < d → x < l.getD i d) := by
  induction l generalizing i with
  | nil => simp
  | cons a l ih =>
    obtain ⟨least, rising⟩ := List.pairwise_cons.mp rising
    by_cases low : a ≤ x
    · have count : (a :: l).countP (· ≤ x) = l.countP (· ≤ x) + 1 := List.countP_cons_of_pos (by simpa using low)
      rw [count]
      cases i with
      | zero => exact ⟨fun _ => low, fun h => absurd h (by omega)⟩
      | succ i => exact ⟨fun h => (ih rising i).1 (by omega), fun h => (ih rising i).2 (by omega)⟩
    · have none_ : (a :: l).countP (· ≤ x) = 0 := by
        refine List.countP_eq_zero.mpr fun b there => ?_
        rcases List.mem_cons.mp there with rfl | later
        · simpa using low
        · have := least b later
          simp only [decide_eq_true_eq]
          omega
      rw [none_]
      refine ⟨fun h => absurd h (Nat.not_lt_zero i), fun _ beyond => ?_⟩
      cases i with
      | zero => exact Nat.lt_of_not_le low
      | succ i =>
        have past : l.countP (· ≤ x) = 0 := by
          rw [List.countP_eq_zero] at none_ ⊢
          exact fun b there => none_ b (List.mem_cons_of_mem a there)
        exact (ih rising i).2 (by omega) beyond

theorem monthStarts_rising (leap : Bool) : (monthStarts leap).Pairwise (· < ·) := by cases leap <;> decide

theorem monthStarts_count (leap : Bool) (offset : Nat) :
    1 ≤ (monthStarts leap).countP (· ≤ offset) ∧ (monthStarts leap).countP (· ≤ offset) ≤ 12 := by
  have first : 0 ∈ monthStarts leap := by cases leap <;> decide
  have twelve : (monthStarts leap).length = 12 := by cases leap <;> rfl
  exact ⟨List.countP_pos_iff.mpr ⟨0, first, by simp⟩, twelve ▸ List.countP_le_length⟩

/-- The date of a day: the year, the month and the day of the month count the days before it. -/
theorem dateOf_spec (n : Nat) :
    1990 ≤ (dateOf n).year ∧ 1 ≤ (dateOf n).month ∧ (dateOf n).month ≤ 12 ∧ 1 ≤ (dateOf n).dayOfMonth ∧
      n = daysOfYears 1990 (dateOf n).year + (monthStarts (isLeap (dateOf n).year)).getD ((dateOf n).month - 1) 0 +
        ((dateOf n).dayOfMonth - 1) ∧
      (monthStarts (isLeap (dateOf n).year)).getD ((dateOf n).month - 1) 0 + ((dateOf n).dayOfMonth - 1) <
        (monthStarts (isLeap (dateOf n).year)).getD (dateOf n).month (if isLeap (dateOf n).year then 366 else 365) := by
  have enough : n < 365 * (n / 365 + 1) := by omega
  obtain ⟨later, inside, total⟩ := yearOf_spec (n / 365 + 1) 1990 n enough
  rw [dateOf]
  generalize yearOf (n / 365 + 1) 1990 n = found at *
  obtain ⟨year, offset⟩ := found
  dsimp only at *
  obtain ⟨one, twelve⟩ := monthStarts_count (isLeap year) offset
  have rising := monthStarts_rising (isLeap year)
  generalize count : (monthStarts (isLeap year)).countP (· ≤ offset) = month at *
  have begun := (rising_countP rising offset (month - 1) 0).1 (by omega)
  have ends := (rising_countP rising offset month (if isLeap year then 366 else 365)).2 (by omega) inside
  refine ⟨later, one, twelve, Nat.le_add_left 1 _, ?_, ?_⟩
  · omega
  · omega

/-! ### Item entries -/

theorem printed_out (item : Code) (day : Nat) (minute : Option Nat) :
    ItemLine.printed ⟨item, .out, some (day, minute), 0, none⟩ = [itemTail item ++ [0x20#8] ++ dueText day minute] := rfl

theorem printed_returned (item : Code) (fine : Nat) (heldFor : Option Code) :
    ItemLine.printed ⟨item, .returned, none, fine, heldFor⟩ =
      (itemTail item ++ ascii [' ', 'I', 'N'] ++
        (if 0 < fine then [0x20#8] ++ (ascii ['F', 'I', 'N', 'E', ' '] ++ amountText fine) else [])) ::
      (match heldFor with
        | some b => [indent ++ ascii ['H', 'O', 'L', 'D', ' '] ++ borrowerTail b]
        | none => []) := rfl

theorem printed_renewed (item : Code) (fine day : Nat) (minute : Option Nat) :
    ItemLine.printed ⟨item, .renewed, some (day, minute), fine, none⟩ =
      [itemTail item ++ ascii [' ', 'R', 'E', 'N', 'E', 'W', 'E', 'D', ' '] ++ dueText day minute] ++
        (if 0 < fine then [indent ++ (ascii ['F', 'I', 'N', 'E', ' '] ++ amountText fine)] else []) := by
  simp [ItemLine.printed, List.append_assoc]

/-! ### The lines of a slip -/

theorem Slip.original_eq {sl : Slip} {number : Nat} {original : SlipKind} {first : Nat} (numbered : sl.number = some number)
    (own : sl.kind ≠ .copy → original = sl.kind ∧ first = number) (copied : sl.kind = .copy → sl.copyOf = some (original, first)) :
    sl.original = (original, first) := by
  unfold Slip.original
  by_cases copy : sl.kind = .copy
  · rw [copy, copied copy]
  · obtain ⟨rfl, rfl⟩ := own copy
    cases kind : sl.kind
    case copy => exact absurd kind copy
    all_goals simp [numbered]

theorem Slip.kindLine_eq {sl : Slip} {original : SlipKind} {first : Nat} (of : sl.original = (original, first))
    (own : sl.kind ≠ .copy → original = sl.kind) :
    sl.kindLine = if sl.kind = .copy ∨ sl.copyMark = true then
        ascii ['C', 'O', 'P', 'Y', ' '] ++ kindWord original ++ [0x20#8] ++ padded 4 first
      else kindWord original := by
  rw [Slip.kindLine, of]
  by_cases copy : sl.kind = .copy
  · simp [copy]
    rfl
  · by_cases mark : sl.copyMark = true
    · simp [mark]
      rfl
    · simp [copy, mark, own copy]

theorem Slip.numberText_eq {sl : Slip} {number : Nat} (numbered : sl.number = some number) :
    sl.numberText = ascii ['S', 'L', 'I', 'P', ' '] ++ padded 4 number := by
  rw [Slip.numberText, numbered, Option.getD_some]

theorem decimal_station (st : Station) : decimal (stationNumber st) = [BitVec.ofNat 8 (0x30 + stationNumber st)] := by
  cases st <;> decide

theorem Slip.footer_eq (sl : Slip) : sl.footer =
    sl.numberText ++ ascii [' ', ' ', 'S', 'T', 'A', 'T', 'I', 'O', 'N', ' '] ++
      (match sl.station with | some st => [BitVec.ofNat 8 (0x30 + stationNumber st)] | none => []) ++
      ascii [' ', ' ', 'I', 'T', 'E', 'M', 'S', ' '] ++ decimal sl.items.length := by
  rw [Slip.footer]
  cases sl.station with
  | none => rfl
  | some st => simp only [decimal_station]

/-- Settles O42: numbers and dates by induction on their digits and years, and the lines of a slip by its kind. -/
theorem slipsAreComposedAndPrinted : Obligations.SlipsAreComposedAndPrinted := by
  unfold Obligations.SlipsAreComposedAndPrinted
  refine ⟨fun st p m s mode owner => ?_, fun sl number original first numbered proper own copied => ?_,
    fun item fine day minute b => ⟨printed_out item day minute, ?_, ?_, printed_renewed item fine day minute, rfl⟩, fun n => ?_,
    fun w n => ⟨length_padded w n, digitsOnly_padded w n, spelled_padded w n, rfl, fun bound => ?_⟩⟩
  · simp only [composeSlip, mode, owner, Option.getD_some]
    cases m <;> rfl
  · have of := Slip.original_eq numbered own copied
    have kindLine := Slip.kindLine_eq of (fun h => (own h).1)
    have number_ := Slip.numberText_eq numbered
    have printable_ : printable = fun b => if 0x20 ≤ b.toNat ∧ b.toNat ≤ 0x7E then b else 0x20#8 := funext printable_eq
    rw [Slip.printed, of, kindLine, Slip.footer_eq, number_, printable_]
    cases original
    case copy => exact absurd rfl proper
    all_goals rfl
  · rw [printed_returned] <;> rfl
  · rw [printed_returned, printed_returned] <;> rfl
  · obtain ⟨year, one, twelve, first, total, inside⟩ := dateOf_spec n
    rw [daysOfYears_eq] at total
    refine ⟨year, one, twelve, first, total, inside, rfl, rfl, fun m => ⟨rfl, ?_⟩⟩
    simp only [dueText, dayMonthText, List.append_assoc]
    rfl
  · obtain ⟨digits, value, some_, leading⟩ := spells_decimal bound
    exact ⟨digits, value, some_, leading⟩

end Sys2Proof.Machine
end

section
/-! PROOF. A drawn label decodes to its code from either end, and what is decoded is a valid code (O19; R6 to R9, TABLE 1-4,
TABLE 1-5). -/

namespace Sys2Proof.Machine

/-! ### The code and its nibbles -/

/-- The last `w` nibbles of a number, the highest first. -/
def nibbles (w x : Nat) : List Nat := (List.range w).map (fun i => x / 16 ^ (w - 1 - i) % 16)

theorem nibbles_succ (w x : Nat) : nibbles (w + 1) x = nibbles w (x / 16) ++ [x % 16] := by
  rw [nibbles, List.range_succ, List.map_append, List.map_singleton, nibbles]
  congr 1
  · refine List.map_congr_left fun i here => ?_
    have inside := List.mem_range.mp here
    have power : 16 ^ (w + 1 - 1 - i) = 16 * 16 ^ (w - 1 - i) := by
      rw [show w + 1 - 1 - i = (w - 1 - i) + 1 by omega, Nat.pow_succ, Nat.mul_comm]
    rw [power, Nat.div_div_eq_div_mul]
  · simp

theorem foldl_nibbles (w x : Nat) : (nibbles w x).foldl (fun n d => n * 16 + d) 0 = x % 16 ^ w := by
  induction w generalizing x with
  | zero => rw [Nat.pow_zero, Nat.mod_one]; rfl
  | succ w ih =>
    rw [nibbles_succ, List.foldl_append, ih, List.foldl_cons, List.foldl_nil, Nat.pow_succ, Nat.mul_comm (16 ^ w), Nat.mod_mul]
    omega

theorem digits_eq_nibbles (c : Code) : digits c = nibbles 14 c.toNat := by
  refine List.map_congr_left fun i _ => ?_
  rw [digit, show 14 - (i + 1) = 14 - 1 - i by omega]

theorem codeOfDigits_digits (c : Code) : codeOfDigits (digits c) = c := by
  have bound : c.toNat < 16 ^ 14 := c.isLt
  rw [codeOfDigits, digits_eq_nibbles, foldl_nibbles, Nat.mod_eq_of_lt bound, BitVec.ofNat_toNat, BitVec.setWidth_eq]

theorem length_digits (c : Code) : (digits c).length = 14 := by simp [digits]

theorem digit_le_of_valid {c : Code} (valid : codeValid c = true) : ∀ d ∈ digits c, d ≤ 9 := by
  simp only [codeValid, Bool.and_eq_true] at valid
  simpa [allDecimal] using valid.1.1

/-! ### One character -/

/-- An element drawn wide or narrow. -/
def drawn (n w : Nat) (wide : Bool) : Nat := if wide then w else n

section
variable {n w : Nat} (less : n < w)
include less

theorem max_drawn (a b : Bool) : max (drawn n w a) (drawn n w b) = drawn n w (a || b) := by
  cases a <;> cases b <;> simp [drawn] <;> omega

theorem min_drawn (a b : Bool) : min (drawn n w a) (drawn n w b) = drawn n w (a && b) := by
  cases a <;> cases b <;> simp [drawn] <;> omega

theorem drawn_lt (a b : Bool) : drawn n w a < drawn n w b ↔ (!a && b) = true := by
  cases a <;> cases b <;> simp [drawn] <;> omega

end

/-- The positions of a wide pair among the five. -/
def wideMarks (pair : Nat × Nat) : List Bool := [1, 2, 3, 4, 5].map (fun i => decide (i = pair.1 ∨ i = pair.2))

/-- The wide pair of a digit (TABLE 1-5). -/
def widePairOf (d : Nat) : Nat × Nat := widePairs.getD d (1, 2)

/-- The five elements of a digit's character. -/
def drawnCharacter (n w d : Nat) : List Nat := (wideMarks (widePairOf d)).map (drawn n w)

theorem isWidePair_drawn {n w : Nat} (less : n < w) (a b c d e : Bool) {pair : Nat × Nat} (known : pair ∈ widePairs) :
    isWidePair ([a, b, c, d, e].map (drawn n w)) pair = decide ([a, b, c, d, e] = wideMarks pair) := by
  fin_cases known
  all_goals
    simp [isWidePair, narrows, narrowerWide, element, widest, wideMarks, max_drawn less, min_drawn less, drawn_lt less]
    revert a b c d e
    decide

theorem wideMarks_injective : ∀ i < 10, ∀ j < 10, wideMarks (widePairOf i) = wideMarks (widePairOf j) → i = j := by decide

theorem findIdx?_drawn {n w d : Nat} (less : n < w) (digit : d < 10) :
    widePairs.findIdx? (isWidePair (drawnCharacter n w d)) = some d := by
  have all : ∀ pair ∈ widePairs,
      isWidePair (drawnCharacter n w d) pair = decide (wideMarks (widePairOf d) = wideMarks pair) :=
    fun pair known => isWidePair_drawn less _ _ _ _ _ known
  have entry : ∀ j (inside : j < widePairs.length), widePairs[j] = widePairOf j := fun j inside =>
    (List.getD_eq_getElem _ _ inside).symm
  have inside : d < widePairs.length := digit
  rw [List.findIdx?_eq_some_iff_getElem]
  refine ⟨inside, by rw [all _ (List.getElem_mem inside), entry d inside]; simp, fun j before => ?_⟩
  have earlier : j < widePairs.length := Nat.lt_trans before inside
  rw [all _ (List.getElem_mem earlier), entry j earlier, decide_eq_true_eq]
  exact fun same => absurd (wideMarks_injective d digit j (by omega) same) (by omega)

/-- What the classification looks at, for the marks of a wide pair: the pair is wide, the rest is narrow. -/
theorem narrows_drawn {n w d : Nat} (digit : d < 10) :
    narrowerWide (drawnCharacter n w d) (widePairOf d) = w ∧ widest (narrows (drawnCharacter n w d) (widePairOf d)) = n := by
  interval_cases d
  all_goals
    simp [drawnCharacter, wideMarks, widePairOf, widePairs, narrows, narrowerWide, element, widest]
    simp [drawn]

theorem classify_drawn {n w d : Nat} (less : n < w) (wide : 3 * n ≤ 2 * w) (within : w ≤ 5 * n) (digit : d < 10) :
    classify (drawnCharacter n w d) = some (d, w) := by
  obtain ⟨pair, rest⟩ := narrows_drawn (n := n) (w := w) digit
  have ratio : ∀ e ∈ drawnCharacter n w d, ∀ x ∈ drawnCharacter n w d, e ≤ 5 * x := by
    have drawn_ : ∀ e ∈ drawnCharacter n w d, n ≤ e ∧ e ≤ w := by
      intro e there
      obtain ⟨mark, -, rfl⟩ := List.mem_map.mp there
      cases mark <;> simp [drawn] <;> omega
    intro e here x there
    have := drawn_ e here
    have := drawn_ x there
    omega
  have pair_ : widePairs.getD d (1, 2) = widePairOf d := rfl
  rw [classify, findIdx?_drawn less digit]
  dsimp only
  rw [pair_, pair, rest, if_pos ⟨wide, by simpa using ratio⟩]

/-! ### The characters of a label -/

/-- The elements of a character with the gap after it. -/
def drawnWithGap (n w g d : Nat) : List Nat := drawnCharacter n w d ++ [g]

theorem labelElements_eq (c : Code) (n w g : Nat) :
    labelElements c n w g = [w, n, n, g] ++ ((digits c).flatMap (drawnWithGap n w g) ++ [n, w, w]) := by
  have character : ∀ d, [1, 2, 3, 4, 5].map (fun i =>
      if i = (widePairs.getD d (1, 2)).1 ∨ i = (widePairs.getD d (1, 2)).2 then w else n) ++ [g] = drawnWithGap n w g d := by
    intro d
    simp [drawnWithGap, drawnCharacter, wideMarks, widePairOf, drawn]
  rw [labelElements, List.append_assoc, show (fun d => _) = drawnWithGap n w g from funext character]

/-- Six elements to a character: element `i` of character `j`. -/
theorem getD_characters {n w g : Nat} (tail : List Nat) {i : Nat} (six : i < 6) (ds : List Nat) (j : Nat)
    (inside : j < ds.length) :
    (ds.flatMap (drawnWithGap n w g) ++ tail).getD (6 * j + i) 0 = (drawnWithGap n w g ds[j]).getD i 0 := by
  induction ds generalizing j with
  | nil => exact absurd inside (Nat.not_lt_zero j)
  | cons d ds ih =>
    have width : (drawnWithGap n w g d).length = 6 := rfl
    rw [List.flatMap_cons, List.append_assoc]
    cases j with
    | zero => rw [List.getD_append _ _ _ _ (by omega)]; simp
    | succ j =>
      rw [List.getD_append_right _ _ _ _ (by omega), width, show 6 * (j + 1) + i - 6 = 6 * j + i by omega,
        ih j (by simpa using inside), List.getElem_cons_succ]

theorem getD_after_characters {n w g : Nat} (tail : List Nat) (i : Nat) (ds : List Nat) :
    (ds.flatMap (drawnWithGap n w g) ++ tail).getD (6 * ds.length + i) 0 = tail.getD i 0 := by
  induction ds with
  | nil => simp
  | cons d ds ih =>
    have width : (drawnWithGap n w g d).length = 6 := rfl
    rw [List.flatMap_cons, List.append_assoc, List.getD_append_right _ _ _ _ (by rw [width, List.length_cons]; omega), width,
      List.length_cons, show 6 * (ds.length + 1) + i - 6 = 6 * ds.length + i by omega, ih]

theorem element_label (c : Code) (n w g i : Nat) : element (labelElements c n w g) (i + 5) =
    ((digits c).flatMap (drawnWithGap n w g) ++ [n, w, w]).getD i 0 := by
  rw [element, labelElements_eq, List.getD_append_right _ _ _ _ (by simp)] <;> rfl

theorem character_label {c : Code} {n w g j : Nat} (inside : j < (digits c).length) :
    character (labelElements c n w g) (j + 1) = drawnCharacter n w (digits c)[j] := by
  have each : ∀ i < 5, element (labelElements c n w g) (6 * (j + 1) - 1 + i) =
      (drawnWithGap n w g (digits c)[j]).getD i 0 := by
    intro i five
    rw [show 6 * (j + 1) - 1 + i = 6 * j + i + 5 by omega, element_label, getD_characters _ (by omega) _ _ inside]
  rw [character, List.map_congr_left fun i here => each i (List.mem_range.mp here)] <;> rfl

theorem gap_label {c : Code} {n w g j : Nat} (inside : j < (digits c).length) :
    element (labelElements c n w g) (6 * (j + 1) + 4) = g := by
  rw [show 6 * (j + 1) + 4 = 6 * j + 5 + 5 by omega, element_label, getD_characters _ (by omega) _ _ inside] <;> rfl

theorem readCharacters_eq {els : List Nat} (ds : List Nat) (k : Nat)
    (each : ∀ j (inside : j < ds.length), ∃ wide, classify (character els (k + j)) = some (ds[j], wide) ∧
      element els (6 * (k + j) + 4) < wide) :
    readCharacters els (List.range' k ds.length) = some ds := by
  induction ds generalizing k with
  | nil => rfl
  | cons d ds ih =>
    obtain ⟨wide, first, gap⟩ := each 0 (Nat.succ_pos _)
    have rest := ih (k + 1) fun j inside => by
      have next := each (j + 1) (Nat.succ_lt_succ inside)
      rw [show k + (j + 1) = k + 1 + j by omega] at next
      exact next
    rw [List.length_cons, List.range'_succ, readCharacters, show classify (character els k) = some (d, wide) from first]
    dsimp only
    rw [if_pos (show element els (6 * k + 4) < wide from gap), rest, Option.map_some]

theorem readCharacters_label {c : Code} {n w g : Nat} (valid : codeValid c = true) (less : n < w) (wide : 3 * n ≤ 2 * w)
    (within : w ≤ 5 * n) (gap : g < w) :
    readCharacters (labelElements c n w g) ((List.range 14).map (· + 1)) = some (digits c) := by
  have order : (List.range 14).map (· + 1) = List.range' 1 (digits c).length := by rw [length_digits]; decide
  rw [order]
  refine readCharacters_eq (digits c) 1 fun j inside => ⟨w, ?_, ?_⟩ <;> rw [Nat.add_comm 1 j]
  · have digit := digit_le_of_valid valid _ (List.getElem_mem inside)
    rw [character_label inside, classify_drawn less wide within (by omega)]
  · rw [gap_label inside]
    exact gap

/-! ### The guards and the direction -/

theorem element_reverse_label (c : Code) (n w g : Nat) :
    element (labelElements c n w g).reverse 1 = w ∧ element (labelElements c n w g).reverse 2 = w ∧
      element (labelElements c n w g).reverse 3 = n := by
  have reversed : (labelElements c n w g).reverse =
      [w, w, n] ++ ([w, n, n, g] ++ (digits c).flatMap (drawnWithGap n w g)).reverse := by
    rw [labelElements_eq, ← List.append_assoc, List.reverse_append] <;> rfl
  rw [reversed]
  exact ⟨rfl, rfl, rfl⟩

theorem directed_label (c : Code) {n w : Nat} (g : Nat) (wide : 3 * n ≤ 2 * w) :
    directed (labelElements c n w g) = some (labelElements c n w g) := by
  have start : readsWNN w n n = true := by simp [readsWNN, wide]
  exact if_pos start

theorem directed_reverse_label (c : Code) {n w : Nat} (g : Nat) (wide : 3 * n ≤ 2 * w) (some_ : 0 < w) :
    directed (labelElements c n w g).reverse = some (labelElements c n w g) := by
  obtain ⟨first, second, third⟩ := element_reverse_label c n w g
  have forward : readsWNN w w n = false := by simp [readsWNN]; omega
  have backward : readsWWN w w n = true := by simp [readsWWN, wide]
  simp [directed, first, second, third, forward, backward]

theorem guards_label (c : Code) {n w g : Nat} (wide : 3 * n ≤ 2 * w) (gap : g < w) :
    (startGuard (labelElements c n w g) && stopGuard (labelElements c n w g) &&
      decide (element (labelElements c n w g) 4 < element (labelElements c n w g) 1)) = true := by
  have stop : ∀ i, element (labelElements c n w g) (84 + i + 5) = [n, w, w].getD i 0 := by
    intro i
    have after := getD_after_characters (n := n) (w := w) (g := g) [n, w, w] i (digits c)
    rw [length_digits] at after
    rw [element_label, after]
  have start_ : startGuard (labelElements c n w g) = readsWNN w n n := rfl
  have fourth : element (labelElements c n w g) 4 = g ∧ element (labelElements c n w g) 1 = w := ⟨rfl, rfl⟩
  have first : element (labelElements c n w g) 89 = n := stop 0
  have second : element (labelElements c n w g) 90 = w := stop 1
  have third : element (labelElements c n w g) 91 = w := stop 2
  simp [start_, readsWNN, stopGuard, first, second, third, fourth, wide, gap]

/-! ### The obligation -/

/-- A symbol whose direction is fixed as that of a drawn label decodes to its code. -/
theorem decodeElements_directed {kept : List Nat} {c : Code} {n w g : Nat} (valid : codeValid c = true)
    (wide : 3 * n ≤ 2 * w) (within : w ≤ 5 * n) (some_ : 0 < n) (gap : g < w)
    (direction : directed kept = some (labelElements c n w g)) : decodeElements kept 91 = some c := by
  rw [decodeElements, if_pos rfl, direction]
  dsimp only
  rw [if_pos (guards_label c wide gap), readCharacters_label valid (by omega) wide within gap]
  dsimp only
  rw [codeOfDigits_digits, if_pos valid]

theorem decodeElements_valid {kept : List Nat} {count : Nat} {c : Code} (decoded : decodeElements kept count = some c) :
    count = 91 ∧ codeValid c = true := by
  unfold decodeElements at decoded
  split_ifs at decoded with whole
  refine ⟨whole, ?_⟩
  split at decoded
  · cases decoded
  · split_ifs at decoded
    split at decoded
    · cases decoded
    · split_ifs at decoded with valid
      rw [← Option.some.inj decoded]
      exact valid

/-- Settles O19: either end fixes the same direction, and the characters are read one by one. -/
theorem labelReadsFromEitherEnd : Obligations.LabelReadsFromEitherEnd := by
  unfold Obligations.LabelReadsFromEitherEnd
  refine ⟨fun c n w g valid wide within some_ gap => ?_, fun kept count c decoded => decodeElements_valid decoded⟩
  exact ⟨decodeElements_directed valid wide within some_ gap (directed_label c g wide),
    decodeElements_directed valid wide within some_ gap (directed_reverse_label c g wide (by omega))⟩

end Sys2Proof.Machine
end
